-- ==== Sys2Proof/Word.lean ====
section
/-! DEFINITION. The widths of the hardware's values (spec/30_encoding.md R69) and the two halves of a byte
(spec/00_scope.md R15). All values are unsigned (spec/00_scope.md, notation). -/

namespace Sys2Proof

/-- An 8-bit value: formats PAT, PST and RAW, a key character, a scan code (R70, R74, R75, R23). -/
abbrev Byte := BitVec 8

/-- Format ADR: a 7-bit device address (R79). -/
abbrev Adr := BitVec 7

/-- Format CMD: a 10-bit command word, host to block (R80). -/
abbrev CmdWord := BitVec 10

/-- Format RSP: a 9-bit response word, block to host (R83). -/
abbrev RspWord := BitVec 9

/-- Format KME: a 16-bit keymap entry (R78). -/
abbrev KmeWord := BitVec 16

/-- The lower nibble, bits 3 to 0 (R15). -/
def loNibble (b : Byte) : BitVec 4 := b.extractLsb' 0 4

/-- The upper nibble, bits 7 to 4 (R15). -/
def hiNibble (b : Byte) : BitVec 4 := b.extractLsb' 4 4

end Sys2Proof
end

