-- ==== Sys2Proof/Config.lean ====
section
/-! DEFINITION. What construction fixes (spec/00_scope.md R8 to R12, spec/10_state.md R23) and the free values: constants
without a body, which no proof can evaluate. -/

namespace Sys2Proof

/-- One entry of the keymap (spec/00_scope.md R10). -/
structure KeymapEntry where
  code : Byte
  key  : Byte
  deriving DecidableEq, Repr, Inhabited

/-- The configuration registers (spec/10_state.md R23), loaded at construction and read-only afterwards (R22). -/
structure Configuration where
  /-- `DEV_ADDR`, the expander's bus address (R9). -/
  devAddr : Adr
  /-- `DEBUG` (R11). -/
  debug   : Bool
  /-- `KEYMAP`, position 0 first (R10). -/
  keymap  : List KeymapEntry
  /-- `T_SETTLE`, in units `T_UNIT` (R12). -/
  tSettle : Nat
  deriving DecidableEq, Repr, Inhabited

/-- `N` is the length of the keymap (spec/00_scope.md R10). -/
abbrev Configuration.n (c : Configuration) : Nat := c.keymap.length

namespace Config

/-- The default of `T_SETTLE` (spec/00_scope.md R12). -/
def tSettleDefault : Nat := 50

/-- Free value: the k-th `draw8()` (spec/00_scope.md, notation; spec/20_memory.md R48). Log 1, log 2. -/
opaque draw8 : Nat → Byte

/-- Free value: the environment's answer to the k-th port read, none meaning no data
(spec/20_memory.md R47, R49). Log 6. -/
opaque freeAnswer : Nat → Option Byte

/-- Free value: what the unspecified fields of the k-th response word hold (spec/30_encoding.md R83). Log 3. -/
opaque rspFiller : Nat → RspWord

/-- Free values: the unspecified bytes after reset, R1, R2, RAW, KEY, PORT_OUT in this order
(spec/10_state.md R41). Log 4. -/
opaque resetByte : Nat → Byte

/-- Free value: PRESSED after reset (spec/10_state.md R41). Log 4. -/
opaque resetPressed : Bool

/-- Free value: IDX after reset, before it is brought into its range (spec/10_state.md R41, R27). Log 4. -/
opaque resetIdx : Nat

/-- Free value: the configured device address of `State.reset` (spec/00_scope.md R9, OPEN). Log 5. -/
opaque devAddr : Adr

/-- Free value: the configured debug flag of `State.reset` (spec/00_scope.md R11, OPEN). Log 5. -/
opaque debug : Bool

/-- Free value: the configured keymap of `State.reset` (spec/00_scope.md R10, OPEN). Log 5. -/
opaque keymap : List KeymapEntry

/-- Free value: whether a diagnostic sink is connected in `State.reset` (spec/10_state.md R36). Log 15. -/
opaque sinkAttached : Bool

/-- The configured values of `State.reset`: the OPEN parameters free, T_SETTLE at its default (R9 to R12). Log 5. -/
def configured : Configuration :=
  { devAddr := devAddr, debug := debug, keymap := keymap, tSettle := tSettleDefault }

end Config

end Sys2Proof
end

