-- ==== Sys2Proof/Syntax.lean ====
section
/-! DEFINITION. The instructions: one constructor per row of spec/opcode_table.json. -/

namespace Sys2Proof

/-- The six rows of the opcode table. The first four are host commands (format CMD, spec/30_encoding.md R82),
the last two are the bytes the block sends to the expander's port (format PAT, R71, R72). -/
inductive Instr where
  /-- INIT: write the idle pattern (spec/40_port_driver.md R90). -/
  | init
  /-- POLL: scan once and resolve (spec/42_poll.md R116). -/
  | poll
  /-- SCAN: one two-phase scan (spec/40_port_driver.md R91). -/
  | scan
  /-- RESOLVE raw: translate a raw scan byte (spec/41_key_resolver.md R105). -/
  | resolve (raw : Byte)
  /-- WR_IDLE: the port write of the idle pattern (spec/30_encoding.md R71). -/
  | wrIdle
  /-- WR_SCAN: the port write of the scanning pattern (spec/30_encoding.md R72). -/
  | wrScan
  deriving DecidableEq, Repr, Inhabited

/-- The two encoding formats an instruction can have (R69): a command word or a port drive pattern. -/
inductive Format where
  | cmd
  | pat
  deriving DecidableEq, Repr

/-- The format column of spec/opcode_table.json. -/
def Instr.format : Instr → Format
  | .init => .cmd
  | .poll => .cmd
  | .scan => .cmd
  | .resolve _ => .cmd
  | .wrIdle => .pat
  | .wrScan => .pat

/-- The mnemonic column of spec/opcode_table.json (also the names of R86). -/
def Instr.mnemonic : Instr → String
  | .init => "INIT"
  | .poll => "POLL"
  | .scan => "SCAN"
  | .resolve _ => "RESOLVE"
  | .wrIdle => "WR_IDLE"
  | .wrScan => "WR_SCAN"

end Sys2Proof
end

