-- ==== Sys2Proof/WellFormed.lean ====
section
/-! DEFINITION. The checks the spec names on terms and configurations. An instruction needs none beyond its types: every
command word is defined (spec/30_encoding.md R85), and RESOLVE's operand is any byte (R81). What can be ill-formed is a
number offered as a word of a format, and a keymap (spec/41_key_resolver.md R114, R115). -/

namespace Sys2Proof

/-- A number is a word of format CMD when it fits 10 bits (spec/30_encoding.md R80). -/
def isCmdWord (w : Nat) : Bool := w < 2 ^ 10

/-- A number is a byte of format PAT when it fits 8 bits (spec/30_encoding.md R70). -/
def isPatWord (w : Nat) : Bool := w < 2 ^ 8

/-- `KeymapUnique` (spec/41_key_resolver.md R114): no two positions hold the same code. The block does not check it;
first match wins without it (R110). -/
def keymapUnique : List KeymapEntry → Bool
  | [] => true
  | e :: es => es.all (fun e' => e'.code != e.code) && keymapUnique es

/-- The coverage duty of the integrator (spec/41_key_resolver.md R115): every code of a list is in the keymap. -/
def keymapCovers (keymap : List KeymapEntry) (codes : List Byte) : Bool :=
  codes.all (fun c => keymap.any (fun e => e.code == c))

end Sys2Proof
end

