-- ==== Sys2Proof/Decode.lean ====
section
/-! DEFINITION. The bit-exact constants and packings of spec/30_encoding.md, the decoder (total, rejecting by name), the
encoder, and `decodeTableWord` for the host. -/

namespace Sys2Proof

/-! ## Constants (R71, R72, R76, R77; spec/20_memory.md R45) -/

/-- `IDLE_PATTERN = 0b00001111` (R71; spec/90_conflicts.md C1). -/
def idlePattern : Byte := 0b00001111#8

/-- `SCAN_PATTERN = 0b11110000` (R72). -/
def scanPattern : Byte := 0b11110000#8

/-- `NO_KEY = 0xFF` (R76). -/
def noKey : Byte := 0xFF#8

/-- `UNKNOWN_KEY = '?'`, code `0x3F` (R77). PRESUMED code (ASCII, spec/93_implementation_defined.md G1). Log 20. -/
def unknownKey : Byte := 0x3F#8

/-- `READ_COUNT = 1` (spec/20_memory.md R45). -/
def readCount : Nat := 1

/-! ## Command words and port bytes -/

/-- One instruction as it is sent: a command word on the command channel or a byte on the bus. -/
inductive Code where
  | cmd (w : CmdWord)
  | pat (b : Byte)
  deriving DecidableEq, Repr

/-- Why bits are no instruction. -/
inductive DecodeError where
  /-- A port byte that no operation ever sends (R73, R85(e)). -/
  | notADrivePattern (b : Byte)
  /-- Two bytes whose value does not fit the 10 bits of format CMD (R80). -/
  | notACommandWord (w : Nat)
  /-- Neither one byte (PAT) nor two (CMD): all formats have one fixed length each (R69). -/
  | badLength (n : Nat)
  deriving DecidableEq, Repr

/-- Field `op`, bits 9:8 (R80). -/
def opField (w : CmdWord) : BitVec 2 := w.extractLsb' 8 2

/-- Field `arg`, bits 7:0 (R80). -/
def argField (w : CmdWord) : Byte := w.extractLsb' 0 8

/-- Opcode map of format CMD; total, since all four values of `op` are defined (R82, R85). `arg` is ignored but by
RESOLVE (R84, R81). -/
def decodeCmd (w : CmdWord) : Instr :=
  if opField w = 0b00#2 then .init
  else if opField w = 0b01#2 then .poll
  else if opField w = 0b10#2 then .scan
  else .resolve (argField w)

/-- Format PAT: the two drive patterns and nothing else (R71, R72, R73). -/
def decodePat (b : Byte) : Except DecodeError Instr :=
  if b = idlePattern then .ok .wrIdle
  else if b = scanPattern then .ok .wrScan
  else .error (.notADrivePattern b)

def decode : Code → Except DecodeError Instr
  | .cmd w => .ok (decodeCmd w)
  | .pat b => decodePat b

/-- The code that stands at `nbits` bits of value `w`: up to 8 bits a port byte, more a command word. -/
def codeOf (nbits w : Nat) : Except DecodeError Code :=
  match Nat.ble nbits 8 with
  | true => if isPatWord w then .ok (.pat (BitVec.ofNat 8 w)) else .error (.badLength nbits)
  | false => if isCmdWord w then .ok (.cmd (BitVec.ofNat 10 w)) else .error (.notACommandWord w)

/-- Decoding of bytes: one byte is a port pattern; two bytes are a command word, the less significant first, with the
six bits above bit 9 zero. The spec gives no byte layout of CMD (R53, R80). DESIGN CHOICE, log 11. -/
def decodeBytes : List Byte → Except DecodeError Instr
  | [b] => decodePat b
  | [lo, hi] => (codeOf 16 (hi.toNat * 256 + lo.toNat)).bind decode
  | bytes => .error (.badLength bytes.length)

/-! ## The encoder -/

/-- A command word from its two fields (R80). -/
def cmdWord (op : BitVec 2) (arg : Byte) : CmdWord := op ++ arg

/-- The word of an instruction (R82, R71, R72); an ignored `arg` is written zero (R84). -/
def encode : Instr → Code
  | .init => .cmd (cmdWord 0b00#2 0#8)
  | .poll => .cmd (cmdWord 0b01#2 0#8)
  | .scan => .cmd (cmdWord 0b10#2 0#8)
  | .resolve raw => .cmd (cmdWord 0b11#2 raw)
  | .wrIdle => .pat idlePattern
  | .wrScan => .pat scanPattern

/-- The bytes `decodeBytes` reads (log 11). -/
def Code.bytes : Code → List Byte
  | .pat b => [b]
  | .cmd w => [w.extractLsb' 0 8, (w.extractLsb' 8 2).setWidth 8]

def encodeBytes (i : Instr) : List Byte := (encode i).bytes

/-- What the decoder reads from an instruction whose bits are `w`, numbered as spec/opcode_table.json numbers them. -/
def decodeTableWord (nbits w : Nat) : Option Instr :=
  match codeOf nbits w with
  | .error _ => none
  | .ok c =>
    match decode c with
    | .error _ => none
    | .ok i => some i

/-! ## Keymap entries as words (format KME, R78) -/

/-- `code` in bits 15:8, `key` in bits 7:0 (R78). -/
def packEntry (e : KeymapEntry) : KmeWord := e.code ++ e.key

def unpackEntry (w : KmeWord) : KeymapEntry :=
  { code := w.extractLsb' 8 8, key := w.extractLsb' 0 8 }

end Sys2Proof
end

