-- ==== Sys2Proof/Machine/Flags.lean ====
section
/-! DEFINITION. The one flag an operation produces (spec/10_state.md R29). -/

namespace Sys2Proof.Machine

/-- `PRESSED` is 0 exactly when the raw scan byte is `0xFF` (spec/10_state.md R29; spec/41_key_resolver.md R106). -/
def presence (raw : Byte) : Bool := raw != noKey

end Sys2Proof.Machine
end

