-- ==== Sys2Proof/Machine/State.lean ====
section
/-! DEFINITION. The state: everything spec/10_state.md gives the machine, the host's script, the environment's answers, and
the counters that index free values. Plain data throughout. -/

namespace Sys2Proof.Machine

/-- `PHASE`, the sequencer position (spec/10_state.md R31). -/
inductive Phase where
  | idle
  | iWrite
  | sSettle
  | sRead1
  | sDrive
  | sRead2
  | sXor
  | sRestore
  | kTest
  | kSearch
  deriving DecidableEq, Repr, Inhabited

/-- The four operations a host command names (spec/30_encoding.md R82). -/
inductive Operation where
  | init
  | poll
  | scan
  | resolve
  deriving DecidableEq, Repr, Inhabited

/-- Which of the two reads of a scan (the `k` of `NoData(k)`, spec/30_encoding.md R88). -/
inductive WhichRead where
  | first
  | second
  deriving DecidableEq, Repr, Inhabited

/-- A diagnostic event (spec/30_encoding.md R88). -/
inductive DiagEvent where
  | noData (k : WhichRead)
  | rawScan (b : Byte)
  deriving DecidableEq, Repr, Inhabited

/-- What the sink receives for an event: a notice, or the raw byte in decimal and in binary, most significant bit first
(spec/30_encoding.md R88). The text stays abstract. Log 16. -/
inductive DiagRecord where
  | noData (k : WhichRead)
  | rawScan (decimal : Nat) (binary : List Bool)
  deriving DecidableEq, Repr, Inhabited

/-- An event of the trace (spec/10_state.md R37). A read's answer is none when no data was available, so that its byte
is absent where the spec calls it meaningless. -/
inductive Event where
  | write (a : Adr) (v : Byte)
  | read (a : Adr) (n : Nat) (answer : Option Byte)
  | delay (t : Nat)
  | diag (e : DiagEvent)
  | resp (w : RspWord)
  deriving DecidableEq, Repr, Inhabited

/-- The state of the machine and of the agents around it (spec/10_state.md). -/
@[ext]
structure State where
  /-- The configuration registers (R22, R23). -/
  cfg : Configuration
  /-- `PHASE` (R31). -/
  phase : Phase
  /-- The command in progress, which R32's table asks for. DEDUCED, log 9. -/
  inProgress : Option Operation
  /-- `R1`, the first read (R24). -/
  r1 : Byte
  /-- `R2`, the second read (R24). -/
  r2 : Byte
  /-- `RAW`, the raw scan byte (R25). -/
  raw : Byte
  /-- `KEY` (R26). -/
  key : Byte
  /-- `PRESSED`, the one flag (R26, R29). -/
  pressed : Bool
  /-- `IDX`, the search position (R27). -/
  idx : Nat
  /-- `PORT_OUT`, the byte most recently sent to the port (R33). -/
  portOut : Byte
  /-- The trace, oldest event first (R37). -/
  trace : List Event
  /-- The diagnostic sink: none when absent, else what it received (R36). Log 15. -/
  sink : Option (List DiagRecord)
  /-- The host's command script: the commands it will still issue, in order (spec/30_encoding.md R86). Log 7. -/
  script : List CmdWord
  /-- Read answers the environment is already bound to, next first; beyond them `Config.freeAnswer`
  (spec/20_memory.md R49). Log 6. -/
  answers : List (Option Byte)
  /-- The model's own: index of the next free read answer. Log 6. -/
  reads : Nat
  /-- The model's own: index of the next `draw8()`. Log 1. -/
  draws : Nat
  /-- The model's own: index of the next response filler. Log 3. -/
  responses : Nat
  deriving DecidableEq, Repr

/-- No operation of this hardware faults: there is no exception and nothing is fatal (spec/60_exceptions.md R122), and no
unspecified behaviour is treated as a fault (spec/93_implementation_defined.md, part 1). So there is no fault. Log 22. -/
inductive Fault where
  deriving DecidableEq, Repr

/-- Why the machine gives an instruction no step. -/
inductive Refusal where
  /-- Raised by an arm of `exec` whose instruction has no meaning yet; none is left. Safe. -/
  | notModelled (mnemonic : String)
  /-- Raised by INIT, POLL, SCAN and RESOLVE in a PHASE other than IDLE: a command issued while an operation is in
  progress gets no step, it is refused, not queued (spec/10_state.md R21; spec/93_implementation_defined.md U12).
  Safe: the spec gives it no effect. Log 14. -/
  | commandWhileBusy
  deriving DecidableEq, Repr

/-- The state right after construction, which is reset (spec/10_state.md R41; spec/70_reset_and_hazards.md R140): the
configuration as given, PHASE in IDLE, the trace empty, every other register a free value (log 4), IDX within its range
0 to N (R27), nothing issued by the host and no answer fixed (log 6, log 7). -/
def State.construct (c : Configuration) (sinkAttached : Bool) : State where
  cfg := c
  phase := .idle
  inProgress := none
  r1 := Config.resetByte 0
  r2 := Config.resetByte 1
  raw := Config.resetByte 2
  key := Config.resetByte 3
  pressed := Config.resetPressed
  idx := Config.resetIdx % (c.n + 1)
  portOut := Config.resetByte 4
  trace := []
  sink := match sinkAttached with
    | true => some []
    | false => none
  script := []
  answers := []
  reads := 0
  draws := 0
  responses := 0

/-- The machine after reset, with the configured values (log 5). -/
def State.reset : State := State.construct Config.configured Config.sinkAttached

end Sys2Proof.Machine
end

