-- ==== Sys2Proof/Machine/Operands.lean ====
section
/-! DEFINITION. Values put together from other values, no state read or written: the value a read delivers, response
words, the keymap lookup, and the two representations of a raw scan byte in a diagnostic. -/

namespace Sys2Proof.Machine

/-- `rd(avail, v, d)` (spec/20_memory.md R48): the byte read, or the draw when the read reported no data. -/
def rd (answer : Option Byte) (d : Byte) : Byte :=
  match answer with
  | some v => v
  | none => d

/-- The combination of the two reads (spec/40_port_driver.md R96). -/
def xorReads (r1 r2 : Byte) : Byte := r1 ^^^ r2

/-- A response word: `pressed` in bit 8, `val` in bits 7:0 (spec/30_encoding.md R83). -/
def rspWord (pressed : Bool) (val : Byte) : RspWord := BitVec.ofBool pressed ++ val

/-- Field `pressed` of a response word (R83). -/
def rspPressed (w : RspWord) : Bool := w.getLsbD 8

/-- Field `val` of a response word (R83). -/
def rspVal (w : RspWord) : Byte := w.extractLsb' 0 8

/-- How the host reads the response of POLL and RESOLVE (spec/42_poll.md R121): none when nothing was detected, else the
character. -/
def hostReads (w : RspWord) : Option Byte :=
  match rspPressed w with
  | true => some (rspVal w)
  | false => none

/-- Where the linear search stops: the first position whose code equals the byte, or `N` (spec/41_key_resolver.md R107). -/
def searchStop (keymap : List KeymapEntry) (raw : Byte) : Nat :=
  match keymap with
  | [] => 0
  | e :: es => if e.code = raw then 0 else searchStop es raw + 1

/-- The key of the entry at a position, or the unknown-key character past the end (spec/41_key_resolver.md R108, R109). -/
def keyAt (keymap : List KeymapEntry) (i : Nat) : Byte :=
  match keymap[i]? with
  | some e => e.key
  | none => unknownKey

/-- The binary representation of a byte, most significant bit first (spec/30_encoding.md R88). -/
def binaryDigits (b : Byte) : List Bool :=
  [b.getLsbD 7, b.getLsbD 6, b.getLsbD 5, b.getLsbD 4, b.getLsbD 3, b.getLsbD 2, b.getLsbD 1, b.getLsbD 0]

/-- What the sink is handed for an event (spec/30_encoding.md R88). -/
def diagRecord : DiagEvent → DiagRecord
  | .noData k => .noData k
  | .rawScan b => .rawScan b.toNat (binaryDigits b)

end Sys2Proof.Machine
end

