-- ==== Sys2Proof/Machine/Ops.lean ====
section
/-! DEFINITION. The primitives of the operations (spec/00_scope.md R17 to R19, spec/20_memory.md R46 to R48): events, the
settle delay, port write and port read, draws, diagnostics, taking a command and answering it.

There is no exception to take and none to return from (spec/60_exceptions.md R122, R130, R131): the one thing a condition
does, the no-data notice, is `noDataNotice`. -/

namespace Sys2Proof.Machine

/-! ## Single registers -/

/-- `PHASE <- p` (spec/10_state.md R31). -/
def enter (p : Phase) (s : State) : State := { s with phase := p }

/-- `R1 <- v` (spec/10_state.md R24). -/
def setR1 (v : Byte) (s : State) : State := { s with r1 := v }

/-- `R2 <- v` (spec/10_state.md R24). -/
def setR2 (v : Byte) (s : State) : State := { s with r2 := v }

/-- `RAW <- v` (spec/10_state.md R25). -/
def setRaw (v : Byte) (s : State) : State := { s with raw := v }

/-- `IDX <- i` (spec/10_state.md R27). -/
def setIdx (i : Nat) (s : State) : State := { s with idx := i }

/-- `KEY <- key` and `PRESSED <- pressed`, the result registers (spec/10_state.md R26). -/
def setResult (key : Byte) (pressed : Bool) (s : State) : State := { s with key := key, pressed := pressed }

/-! ## Primitives -/

/-- Append an event to the trace (spec/10_state.md R37). -/
def emit (e : Event) (s : State) : State := { s with trace := s.trace ++ [e] }

/-- `Delay(t)`: an event and nothing else (spec/00_scope.md R18). -/
def delay (t : Nat) (s : State) : State := emit (.delay t) s

/-- `Diag(e)`, only when DEBUG is 1 (spec/00_scope.md R19): the event in the trace, and its record to the sink if there
is one (spec/10_state.md R36; log 15). -/
def diag (e : DiagEvent) (s : State) : State :=
  match s.cfg.debug with
  | true => { emit (.diag e) s with sink := s.sink.map (fun got => got ++ [diagRecord e]) }
  | false => s

/-- `PortWrite(v)` (spec/20_memory.md R46): the write transaction, `PORT_OUT <- v`. It has no status (R64). -/
def portWrite (v : Byte) (s : State) : State :=
  { emit (.write s.cfg.devAddr v) s with portOut := v }

/-- The environment's answer to the next read (spec/20_memory.md R47, R49). -/
def nextAnswer (s : State) : Option Byte :=
  match s.answers with
  | a :: _ => a
  | [] => Config.freeAnswer s.reads

/-- `PortRead()` (spec/20_memory.md R47): the read transaction. It writes no register and not `PORT_OUT`; its answer is
`nextAnswer` of the state before it. -/
def portRead (s : State) : State :=
  { emit (.read s.cfg.devAddr readCount (nextAnswer s)) s with
    answers := s.answers.tail, reads := s.reads + 1 }

/-- `draw8()` (spec/00_scope.md, notation): the next free byte. -/
def drawn (s : State) : Byte := Config.draw8 s.draws

/-- The state after one `draw8()`. -/
def afterDraw (s : State) : State := { s with draws := s.draws + 1 }

/-- What a condition does: after a read without data, `Diag(NoData(k))` (spec/40_port_driver.md R100,
spec/60_exceptions.md R124). The sequence goes on. -/
def noDataNotice (k : WhichRead) (answer : Option Byte) (s : State) : State :=
  match answer with
  | some _ => s
  | none => diag (.noData k) s

/-- `KEYMAP[i]` (spec/20_memory.md R52); none for `i >= N`, where it is never evaluated. -/
def keymapAt (s : State) (i : Nat) : Option KeymapEntry := s.cfg.keymap[i]?

/-- The filler of the unspecified fields of the next response (spec/30_encoding.md R83). -/
def filler (s : State) : RspWord := Config.rspFiller s.responses

/-- `Resp(w)`: the response word goes to the host (spec/30_encoding.md R83). -/
def respond (w : RspWord) (s : State) : State :=
  { emit (.resp w) s with responses := s.responses + 1 }

/-- Take a command: the operation is in progress and its first phase is entered (spec/10_state.md R32, R38). -/
def begin (op : Operation) (p : Phase) (s : State) : State := { s with inProgress := some op, phase := p }

/-- End an operation: send the response word and return to IDLE (spec/10_state.md R38). -/
def finish (w : RspWord) (s : State) : State := { respond w s with phase := .idle, inProgress := none }

/-- A host command is taken in IDLE only; in any other phase it is refused (spec/10_state.md R21). -/
def whenIdle (s : State) (operation : State → State) : Host.Outcome State Fault Refusal :=
  match s.phase with
  | .idle => .next (operation s)
  | _ => .refused .commandWhileBusy

/-- The command word the host issues next, decoded, and the state with it taken from the script (spec/10_state.md R20).
Every command word decodes (spec/30_encoding.md R85). -/
def fetch (s : State) : Option (Instr × State) :=
  match s.script with
  | [] => none
  | w :: rest => some (decodeCmd w, { s with script := rest })

end Sys2Proof.Machine
end

