-- ==== Sys2Proof/Machine/KeyResolver.lean ====
section
/-! DEFINITION. The Key Resolver (spec/41_key_resolver.md): RESOLVE. -/

namespace Sys2Proof.Machine

/-- The end of every resolve: PRESSED by its rule (spec/10_state.md R29), KEY as found, and the response carries both
(spec/30_encoding.md R83). -/
def conclude (key : Byte) (s : State) : State :=
  finish (rspWord (presence s.raw) key) (setResult key (presence s.raw) s)

/-- RAW is 0xFF (R106): no search, no diagnostic; the key is undefined, a draw (log 2). -/
def resolveNoKey (s : State) : State := conclude (drawn s) (afterDraw s)

/-- RAW is key activity: the diagnostic (R111), then the search starts at position 0. -/
def startSearch (s : State) : State := enter .kSearch (setIdx 0 (diag (.rawScan s.raw) s))

/-- K_TEST (R106). -/
def testNoKey (s : State) : State := if s.raw = noKey then resolveNoKey s else startSearch s

/-- K_SEARCH, one position (R107 to R109; the last three rows of spec/10_state.md R32). Past the end the key is unknown
(IDX above N is unreachable, log 21). -/
def searchOne (s : State) : State :=
  match keymapAt s s.idx with
  | some e => if e.code = s.raw then conclude e.key s else setIdx (s.idx + 1) s
  | none => conclude unknownKey s

/-- K_SEARCH to its end (R107): IDX at the position where the linear search stops, and the key there. -/
def searchAll (s : State) : State :=
  conclude (keyAt s.cfg.keymap (searchStop s.cfg.keymap s.raw)) (setIdx (searchStop s.cfg.keymap s.raw) s)

/-- The two phases of RESOLVE on the RAW of the state (R105). -/
def resolveSequence (s : State) : State :=
  if s.raw = noKey then resolveNoKey s else searchAll (startSearch s)

/-- Load the operand of the command RESOLVE into RAW and enter K_TEST (R105; spec/30_encoding.md R81). -/
def loadRaw (raw : Byte) (s : State) : State := setRaw raw (begin .resolve .kTest s)

/-- RESOLVE raw (R105). -/
def execResolve (raw : Byte) (s : State) : Host.Outcome State Fault Refusal :=
  whenIdle s (fun s => resolveSequence (loadRaw raw s))

end Sys2Proof.Machine
end

