-- ==== Sys2Proof/Machine/Patterns.lean ====
section
/-! DEFINITION. The two port bytes of the opcode table: WR_IDLE and WR_SCAN. Each is one port write transaction
(spec/20_memory.md R46), in any phase and any mode; PHASE is the sequencer's business (log 12). -/

namespace Sys2Proof.Machine

/-- Send the idle pattern (spec/30_encoding.md R71). -/
def writeIdle (s : State) : State := portWrite idlePattern s

/-- Send the scanning pattern (spec/30_encoding.md R72). -/
def writeScan (s : State) : State := portWrite scanPattern s

/-- WR_IDLE. -/
def execWrIdle (s : State) : Host.Outcome State Fault Refusal := .next (writeIdle s)

/-- WR_SCAN. -/
def execWrScan (s : State) : Host.Outcome State Fault Refusal := .next (writeScan s)

end Sys2Proof.Machine
end

