-- ==== Sys2Proof/Machine/PortDriver.lean ====
section
/-! DEFINITION. The Expander Port Driver (spec/40_port_driver.md): INIT and SCAN. One definition per phase of
spec/10_state.md R31, which does what the phase does and enters the next one (R32). -/

namespace Sys2Proof.Machine

/-- I_WRITE (R90): the write of INIT, then the response, whose fields are all unspecified (spec/30_encoding.md R83). -/
def initWrite (s : State) : State := finish (filler s) (writeIdle s)

/-- S_SETTLE (R92): the one delay of a scan. -/
def settle (s : State) : State := enter .sRead1 (delay s.cfg.tSettle s)

/-- S_READ1 (R93, R100). -/
def readFirst (s : State) : State :=
  enter .sDrive
    (noDataNotice .first (nextAnswer s) (setR1 (rd (nextAnswer s) (drawn s)) (afterDraw (portRead s))))

/-- S_DRIVE (R94). -/
def drive (s : State) : State := enter .sRead2 (writeScan s)

/-- S_READ2 (R95, R100): directly after the write, with no delay. -/
def readSecond (s : State) : State :=
  enter .sXor
    (noDataNotice .second (nextAnswer s) (setR2 (rd (nextAnswer s) (drawn s)) (afterDraw (portRead s))))

/-- S_XOR (R96). -/
def combine (s : State) : State := enter .sRestore (setRaw (xorReads s.r1 s.r2) s)

/-- The response of SCAN: `val = RAW`, `pressed` unspecified (spec/30_encoding.md R83). -/
def scanResponse (s : State) : RspWord := rspWord (rspPressed (filler s)) s.raw

/-- S_RESTORE (R97, R98): the idle pattern again on every path; inside POLL no response is sent and K_TEST follows. A
command in progress other than POLL ends as SCAN does (log 10). -/
def restore (s : State) : State :=
  match s.inProgress with
  | some .poll => enter .kTest (writeIdle s)
  | _ => finish (scanResponse s) (writeIdle s)

/-- The six phases of a scan in order (R91). -/
def scanSequence (s : State) : State := restore (combine (readSecond (drive (readFirst (settle s)))))

/-- INIT (R90). -/
def execInit (s : State) : Host.Outcome State Fault Refusal :=
  whenIdle s (fun s => initWrite (begin .init .iWrite s))

/-- SCAN (R91). -/
def execScan (s : State) : Host.Outcome State Fault Refusal :=
  whenIdle s (fun s => scanSequence (begin .scan .sSettle s))

end Sys2Proof.Machine
end

