-- ==== Sys2Proof/Machine/Poll.lean ====
section
/-! DEFINITION. Poll orchestration (spec/42_poll.md): POLL. -/

namespace Sys2Proof.Machine

/-- POLL (R116): the sequence of SCAN without its response, then the sequence of RESOLVE on the RAW it left. -/
def execPoll (s : State) : Host.Outcome State Fault Refusal :=
  whenIdle s (fun s => resolveSequence (scanSequence (begin .poll .sSettle s)))

end Sys2Proof.Machine
end

