-- ==== Sys2Proof/Machine/Sequencer.lean ====
section
/-! DEFINITION. The transition table of PHASE (spec/10_state.md R32), one transition at a time: how a command is taken, and
how an operation in progress goes on. -/

namespace Sys2Proof.Machine

/-- The rows of R32 that leave IDLE: what taking a command does. The two port bytes are no commands. -/
def takeCommand (i : Instr) (s : State) : State :=
  match i with
  | .init => begin .init .iWrite s
  | .poll => begin .poll .sSettle s
  | .scan => begin .scan .sSettle s
  | .resolve raw => loadRaw raw s
  | .wrIdle => s
  | .wrScan => s

/-- The other rows of R32: one transition of an operation in progress. In IDLE nothing happens (spec/60_exceptions.md
R139). -/
def advance (s : State) : State :=
  match s.phase with
  | .idle => s
  | .iWrite => initWrite s
  | .sSettle => settle s
  | .sRead1 => readFirst s
  | .sDrive => drive s
  | .sRead2 => readSecond s
  | .sXor => combine s
  | .sRestore => restore s
  | .kTest => testNoKey s
  | .kSearch => searchOne s

/-- `k` transitions. -/
def advanceBy : Nat → State → State
  | 0, s => s
  | k + 1, s => advanceBy k (advance s)

/-- The port byte a phase sends, which is how the block selects WR_IDLE and WR_SCAN (spec/40_port_driver.md R90, R94,
R97). Log 12. -/
def Phase.sends : Phase → Option Byte
  | .idle => none
  | .iWrite => some idlePattern
  | .sSettle => none
  | .sRead1 => none
  | .sDrive => some scanPattern
  | .sRead2 => none
  | .sXor => none
  | .sRestore => some idlePattern
  | .kTest => none
  | .kSearch => none

/-- Put the block where its very next transition sends the byte: I_WRITE of an INIT for the idle pattern, S_DRIVE of a
SCAN for the scanning pattern; no phase sends another byte. Log 12. -/
def aboutToSend (b : Byte) (s : State) : State :=
  if b = idlePattern then begin .init .iWrite s
  else if b = scanPattern then begin .scan .sDrive s
  else s

/-- Let the host issue the command word next, to a block in IDLE. Log 7. -/
def aboutToTake (w : CmdWord) (s : State) : State :=
  { s with phase := .idle, inProgress := none, script := w :: s.script }

/-- Place an instruction so that the next step runs it. -/
def place (c : Code) (s : State) : State :=
  match c with
  | .cmd w => aboutToTake w s
  | .pat b => aboutToSend b s

end Sys2Proof.Machine
end

