-- ==== Sys2Proof/Machine/Dispatch.lean ====
section
/-! DEFINITION. One arm per instruction, each a direct call of its meaning. -/

namespace Sys2Proof.Machine

def exec (i : Instr) (s : State) : Host.Outcome State Fault Refusal :=
  match i with
  | .init => Sys2Proof.Machine.execInit s
  | .poll => Sys2Proof.Machine.execPoll s
  | .scan => Sys2Proof.Machine.execScan s
  | .resolve raw => Sys2Proof.Machine.execResolve raw s
  | .wrIdle => Sys2Proof.Machine.execWrIdle s
  | .wrScan => Sys2Proof.Machine.execWrScan s

end Sys2Proof.Machine
end

