-- ==== Sys2Proof/Machine/Step.lean ====
section
/-! DEFINITION. One step of the machine. In IDLE the block takes the host's next command and runs the operation to its end
(spec/10_state.md R21, R38), or waits if none is issued (spec/70_reset_and_hazards.md R141); in any other phase it makes
one transition of spec/10_state.md R32 and takes no command (R21). Log 8. -/

namespace Sys2Proof.Machine

def step (s : State) : Host.Outcome State Fault Refusal :=
  match s.phase with
  | .idle =>
    match fetch s with
    | none => .next s
    | some (i, s') => exec i s'
  | _ => .next (advance s)

/-- `s` with the instruction of `nbits` bits and value `w` placed where the next step runs it: a command word is what the
host issues next, to a block in IDLE; a port byte is selected by the phase that sends it. Bits that are no instruction
leave `s` as it is. Log 7, log 12. -/
def State.withFetchWord (s : State) (nbits w : Nat) : State :=
  match codeOf nbits w with
  | .ok c => place c s
  | .error _ => s

end Sys2Proof.Machine
end

