-- ==== Sys2Proof/Machine/Keypad.lean ====
section
/-! DEFINITION. The informative keypad of spec/93_implementation_defined.md G4, an environment that answers reads as a
4 by 4 matrix with at most one key held. No meaning uses it: the machine's read answers stay unconstrained
(spec/20_memory.md R49). A claim that assumes it says so. PRESUMED, log 24. -/

namespace Sys2Proof.Machine

/-- The key held, by row and column, or none. -/
abbrev Held := Option (Fin 4 × Fin 4)

/-- The line of a row: lines 0 to 3 (G4). -/
def rowLine (r : Fin 4) : Nat := r.val

/-- The line of a column: lines 4 to 7 (G4). -/
def columnLine (c : Fin 4) : Nat := 4 + c.val

/-- A released line joined by a closed switch to a line that is driven low reads 0 (G4): the byte with bit `line` set if
that is so, under a drive pattern, for a switch between `line` and `other`. -/
def pulledLow (pattern : Byte) (line other : Nat) : Byte :=
  if pattern.getLsbD line && !pattern.getLsbD other then 1#8 <<< line else 0#8

/-- What a read returns under a drive pattern: each line as driven, less what the held key pulls low (G4). -/
def keypadReads (held : Held) (pattern : Byte) : Byte :=
  match held with
  | none => pattern
  | some (r, c) =>
    pattern &&& ~~~(pulledLow pattern (rowLine r) (columnLine c)) &&& ~~~(pulledLow pattern (columnLine c) (rowLine r))

/-- The raw scan byte of a key, G4's table: bits `r` and `4 + c` are 0, the others 1. -/
def keypadCode (r c : Fin 4) : Byte := 0xFF#8 ^^^ (1#8 <<< rowLine r) ^^^ (1#8 <<< columnLine c)

end Sys2Proof.Machine
end

