-- ==== Sys2Proof/Machine/Script.lean ====
section
/-! DEFINITION. The script syntax of spec/30_encoding.md R86: one operation per line, comments from `;` to the end of the
line, literals of spec/00_scope.md R16, and the three configuration lines. Text is a list of characters. What R86 does not
say (blanks, letter case, sizes of literals) is DESIGN CHOICE, log 23. The code of a quoted character is PRESUMED, log 25. -/

namespace Sys2Proof.Machine

def isBlank (c : Char) : Bool := c == ' ' || c == '\t'

/-- A comment runs from `;` to the end of the line (R86). -/
def stripComment (line : List Char) : List Char := line.takeWhile (fun c => c != ';')

/-- Split at blanks; `word` is the word being read, last character first. -/
def wordsFrom (line word : List Char) : List (List Char) :=
  match line with
  | [] => if word.isEmpty then [] else [word.reverse]
  | c :: cs =>
    if isBlank c then (if word.isEmpty then wordsFrom cs [] else word.reverse :: wordsFrom cs [])
    else wordsFrom cs (c :: word)

/-- The value of a digit in a base. -/
def digitValue (base : Nat) (c : Char) : Option Nat :=
  let n := c.toNat
  let v := if 48 ≤ n && n ≤ 57 then n - 48
    else if 65 ≤ n && n ≤ 70 then n - 55
    else if 97 ≤ n && n ≤ 102 then n - 87
    else base
  if v < base then some v else none

/-- Digits, most significant first (spec/00_scope.md R16). -/
def numeral (base : Nat) (ds : List Char) (acc : Nat) : Option Nat :=
  match ds with
  | [] => some acc
  | d :: ds =>
    match digitValue base d with
    | some v => numeral base ds (acc * base + v)
    | none => none

/-- A byte when the number fits. -/
def asByte (n : Option Nat) : Option Byte :=
  match n with
  | some v => if v < 256 then some (BitVec.ofNat 8 v) else none
  | none => none

/-- A byte literal: `0xNN`, `0bXXXXXXXX` or decimal (R86; spec/00_scope.md R16). -/
def byteLiteral : List Char → Option Byte
  | ['0', 'x', a, b] => asByte (numeral 16 [a, b] 0)
  | '0' :: 'b' :: ds => if ds.length = 8 then asByte (numeral 2 ds 0) else none
  | [] => none
  | ds => asByte (numeral 10 ds 0)

/-- One line of a command script (R86): none if it is no line, `some none` if it is blank or a comment. -/
def assembleLine (line : List Char) : Option (Option Instr) :=
  match wordsFrom (stripComment line) [] with
  | [] => some none
  | [['I', 'N', 'I', 'T']] => some (some .init)
  | [['P', 'O', 'L', 'L']] => some (some .poll)
  | [['S', 'C', 'A', 'N']] => some (some .scan)
  | [['R', 'E', 'S', 'O', 'L', 'V', 'E'], b] => (byteLiteral b).map (fun raw => some (.resolve raw))
  | _ => none

/-- A command script: the command words of its lines, in order (R86, R84). -/
def assemble : List (List Char) → Option (List CmdWord)
  | [] => some []
  | line :: lines =>
    match assembleLine line, assemble lines with
    | some none, some ws => some ws
    | some (some i), some ws =>
      match encode i with
      | .cmd w => some (w :: ws)
      | .pat _ => none
    | _, _ => none

/-- One hexadecimal digit, in capitals. -/
def hexDigit (n : Nat) : Char := if n < 10 then Char.ofNat (48 + n) else Char.ofNat (55 + n)

/-- The line of an operation (R86), RESOLVE's byte as `0xNN`; the port bytes have none, for they are no commands. -/
def lineOf : Instr → Option (List Char)
  | .init => some ['I', 'N', 'I', 'T']
  | .poll => some ['P', 'O', 'L', 'L']
  | .scan => some ['S', 'C', 'A', 'N']
  | .resolve raw => some
      ['R', 'E', 'S', 'O', 'L', 'V', 'E', ' ', '0', 'x', hexDigit (raw.toNat / 16), hexDigit (raw.toNat % 16)]
  | .wrIdle => none
  | .wrScan => none

/-! ## Configuration lines (R86) -/

/-- Blanks and the comment dropped; a quoted character stays as it is. -/
def dropBlanks : List Char → List Char
  | '\'' :: c :: '\'' :: cs => '\'' :: c :: '\'' :: dropBlanks cs
  | c :: cs => if c == ';' then [] else if isBlank c then dropBlanks cs else c :: dropBlanks cs
  | [] => []

/-- The rest of a keymap after its opening brace: entries `(code,'c')` separated by commas, then the closing brace
(character 125). `fuel` bounds the number of entries. PRESUMED: a quoted character stands for its Unicode code, which must
be below 256 and is the ASCII code for every character spec/93_implementation_defined.md G1 names; the spec gives no other
codes (log 25). -/
def keymapEntries (fuel : Nat) (text : List Char) : Option (List KeymapEntry) :=
  match fuel with
  | 0 => none
  | fuel + 1 =>
    match text with
    | '(' :: cs =>
      match byteLiteral (cs.takeWhile (fun c => c != ',')), cs.dropWhile (fun c => c != ',') with
      | some code, ',' :: '\'' :: k :: '\'' :: ')' :: rest =>
        match asByte (some k.toNat) with
        | none => none
        | some key =>
          match rest with
          | ',' :: more => (keymapEntries fuel more).map (fun es => { code := code, key := key } :: es)
          | close => if close = [Char.ofNat 125] then some [{ code := code, key := key }] else none
      | _, _ => none
    | _ => none

/-- The value of a `KEYMAP = ...` line: the entries in position order; an empty pair of braces is the empty keymap. -/
def keymapText (text : List Char) : Option (List KeymapEntry) :=
  match text with
  | [] => none
  | c :: rest =>
    if c = Char.ofNat 123 then
      if rest = [Char.ofNat 125] then some [] else keymapEntries rest.length rest
    else none

/-- A bus address literal: a byte literal below 128 (spec/00_scope.md R9). -/
def addressLiteral (text : List Char) : Option Adr :=
  match byteLiteral text with
  | some b => if b.toNat < 128 then some (b.setWidth 7) else none
  | none => none

/-- One configuration line sets its field of a configuration (R86): `KEYMAP`, `DEV_ADDR` or `DEBUG`. DESIGN CHOICE, log 23:
each stands on one line whole. R86 does not say whether a `KEYMAP` may run over several lines, as
spec/95_test_vectors.md P2 writes one; here a newline is no blank, so such text is refused. -/
def configureLine (c : Configuration) (line : List Char) : Option Configuration :=
  match dropBlanks line with
  | 'K' :: 'E' :: 'Y' :: 'M' :: 'A' :: 'P' :: '=' :: v => (keymapText v).map (fun k => { c with keymap := k })
  | 'D' :: 'E' :: 'V' :: '_' :: 'A' :: 'D' :: 'D' :: 'R' :: '=' :: v =>
    (addressLiteral v).map (fun a => { c with devAddr := a })
  | ['D', 'E', 'B', 'U', 'G', '=', '0'] => some { c with debug := false }
  | ['D', 'E', 'B', 'U', 'G', '=', '1'] => some { c with debug := true }
  | _ => none

end Sys2Proof.Machine
end

