-- ==== Sys2Proof/Machine/Bus.lean ====
section
/-! DEFINITION. The bus channel, call by call: the six Bus Transport calls (spec/20_memory.md R44) behind each transaction
of the trace. Every transaction is indivisible (R56), so the calls are a view of the trace and no state of their own. -/

namespace Sys2Proof.Machine

/-- A call to the Bus Transport with what it answered (spec/20_memory.md R44). -/
inductive BusCall where
  | beginTransaction (address : Adr)
  | write (byte : Byte)
  | endTransaction
  | beginReadRequest (address : Adr) (byteCount : Nat)
  | byteAvailable (answer : Bool)
  | readByte (byte : Byte)
  deriving DecidableEq, Repr

/-- The calls of an event: a write is begin, write, end (R46); a read asks `byte_available()` once and calls `read_byte()`
only if it answered true (R47; spec/90_conflicts.md C7); other events make no call. -/
def callsOf : Event → List BusCall
  | .write a v => [.beginTransaction a, .write v, .endTransaction]
  | .read a n (some v) => [.beginReadRequest a n, .byteAvailable true, .readByte v]
  | .read a n none => [.beginReadRequest a n, .byteAvailable false]
  | .delay _ => []
  | .diag _ => []
  | .resp _ => []

/-- Every call the block has made, oldest first. -/
def busCalls (s : State) : List BusCall := s.trace.flatMap callsOf

/-- The device address a call names, if it names one (R44). -/
def addressOf : BusCall → Option Adr
  | .beginTransaction a => some a
  | .beginReadRequest a _ => some a
  | .write _ => none
  | .endTransaction => none
  | .byteAvailable _ => none
  | .readByte _ => none

end Sys2Proof.Machine
end

