-- ==== Sys2Proof/Safety.lean ====
section
/-! DEFINITION. What counts as a safe run, in the terms claims use: invariants of a state, views of the trace, and two
states compared (spec/10_state.md R32 to R37, spec/60_exceptions.md R137, spec/95_test_vectors.md V7). -/

namespace Sys2Proof.Machine

/-! ## The environment's coming answers -/

/-- The answer to the k-th read from now (spec/20_memory.md R49): the one already fixed, else a free value. -/
def upcoming (s : State) (k : Nat) : Option Byte :=
  match s.answers[k]? with
  | some a => a
  | none => Config.freeAnswer (s.reads + k)

/-- The byte `R1` of a scan started now receives (spec/20_memory.md R48). -/
def firstRead (s : State) : Byte := (upcoming s 0).getD (Config.draw8 s.draws)

/-- The byte `R2` of a scan started now receives, with a draw of its own (spec/20_memory.md R48). -/
def secondRead (s : State) : Byte := (upcoming s 1).getD (Config.draw8 (s.draws + 1))

/-! ## Views of the trace -/

/-- What a read adds to the trace after its own event (spec/40_port_driver.md R100): the no-data notice if there was no
data and DEBUG is 1. -/
def noDataEvents (k : WhichRead) (answer : Option Byte) (debug : Bool) : List Event :=
  match answer, debug with
  | none, true => [.diag (.noData k)]
  | none, false => []
  | some _, _ => []

/-- The records a no-data notice hands to a sink (spec/30_encoding.md R88). -/
def noDataRecords (k : WhichRead) (answer : Option Byte) (debug : Bool) : List DiagRecord :=
  match answer, debug with
  | none, true => [.noData k]
  | none, false => []
  | some _, _ => []

/-- What a resolve adds to the trace before its response (spec/41_key_resolver.md R111): the raw byte if it is key activity
and DEBUG is 1. -/
def rawScanEvents (raw : Byte) (debug : Bool) : List Event :=
  match debug with
  | true => if raw = 0xFF#8 then [] else [.diag (.rawScan raw)]
  | false => []

/-- The records key activity hands to a sink (spec/41_key_resolver.md R111; spec/30_encoding.md R88): the byte's value and
its eight bits (log 16). -/
def rawScanRecords (raw : Byte) (debug : Bool) : List DiagRecord :=
  match debug with
  | true => if raw = 0xFF#8 then [] else [.rawScan raw.toNat (binaryDigits raw)]
  | false => []

/-- A diagnostic event. -/
def isDiag : Event → Bool
  | .diag _ => true
  | .write _ _ => false
  | .read _ _ _ => false
  | .delay _ => false
  | .resp _ => false

/-- A response. -/
def isResp : Event → Bool
  | .resp _ => true
  | .write _ _ => false
  | .read _ _ _ => false
  | .delay _ => false
  | .diag _ => false

/-- The byte of the latest port write of a trace, if there is one (spec/10_state.md R33). -/
def lastWritten (trace : List Event) : Option Byte :=
  trace.foldl (fun last e => match e with
    | .write _ v => some v
    | .read _ _ _ => last
    | .delay _ => last
    | .diag _ => last
    | .resp _ => last) none

/-- A response is the last event of a step that started with the trace `before`, and carries the result registers
(spec/30_encoding.md R83): PRESSED, and KEY when PRESSED is 1. -/
def RespondsWithResult (before : List Event) (t : State) : Prop :=
  ∃ w, t.trace = before ++ [.resp w] ∧ rspPressed w = t.pressed ∧ (t.pressed = true → rspVal w = t.key)

/-! ## Invariants -/

/-- The command in progress fits the phase (spec/10_state.md R31, R32): none in IDLE, and in every other phase an operation
whose sequence has that phase. -/
def phaseFits (p : Phase) (op : Option Operation) : Bool :=
  match p, op with
  | .idle, none => true
  | .idle, some _ => false
  | .iWrite, o => o == some .init
  | .sSettle, o => o == some .scan || o == some .poll
  | .sRead1, o => o == some .scan || o == some .poll
  | .sDrive, o => o == some .scan || o == some .poll
  | .sRead2, o => o == some .scan || o == some .poll
  | .sXor, o => o == some .scan || o == some .poll
  | .sRestore, o => o == some .scan || o == some .poll
  | .kTest, o => o == some .resolve || o == some .poll
  | .kSearch, o => o == some .resolve || o == some .poll

/-- A search in progress is about key activity and has passed no match (spec/41_key_resolver.md R106, R107). -/
def searchFits (s : State) : Prop :=
  s.phase = .kSearch → s.raw ≠ noKey ∧ ∀ j e, j < s.idx → s.cfg.keymap[j]? = some e → e.code ≠ s.raw

/-- The sequencer is in order: phase and command agree, IDX is in 0 to N (spec/10_state.md R27), a search has passed no
match. -/
def SequencerInOrder (s : State) : Prop :=
  phaseFits s.phase s.inProgress = true ∧ s.idx ≤ s.cfg.n ∧ searchFits s

/-- What the port is driven with in each phase once the idle pattern has been written (spec/10_state.md R34): the scanning
pattern between S_DRIVE and S_RESTORE, the idle pattern elsewhere. I_WRITE is before the write that establishes it. -/
def PortInOrder (s : State) : Prop :=
  match s.phase with
  | .iWrite => True
  | .sRead2 => s.portOut = scanPattern
  | .sXor => s.portOut = scanPattern
  | .sRestore => s.portOut = scanPattern
  | .idle => s.portOut = idlePattern
  | .sSettle => s.portOut = idlePattern
  | .sRead1 => s.portOut = idlePattern
  | .sDrive => s.portOut = idlePattern
  | .kTest => s.portOut = idlePattern
  | .kSearch => s.portOut = idlePattern

/-- What an event of a run may be (spec/95_test_vectors.md V7; spec/30_encoding.md R73, R88; spec/20_memory.md R45). -/
def eventInOrder (c : Configuration) : Event → Prop
  | .write a v => a = c.devAddr ∧ (v = 0x0F#8 ∨ v = 0xF0#8)
  | .read a n _ => a = c.devAddr ∧ n = 1
  | .delay t => t = c.tSettle
  | .diag (.noData _) => c.debug = true
  | .diag (.rawScan b) => c.debug = true ∧ b ≠ 0xFF#8
  | .resp _ => True

/-- Every event of the trace is in order, and PORT_OUT is the byte of the latest port write, if there was one
(spec/10_state.md R33). -/
def TraceInOrder (s : State) : Prop :=
  (∀ e ∈ s.trace, eventInOrder s.cfg e) ∧ ∀ v, lastWritten s.trace = some v → s.portOut = v

/-! ## Two states compared -/

/-- The same state with DEBUG at 0, no diagnostic in its trace and no sink (spec/60_exceptions.md R137). -/
def quiet (s : State) : State :=
  { s with
    cfg := { s.cfg with debug := false }
    trace := s.trace.filter (fun e => !isDiag e)
    sink := none }

/-- The same state with another diagnostic sink, or with none (spec/10_state.md R36). -/
def withSink (sink : Option (List DiagRecord)) (s : State) : State := { s with sink := sink }

/-- The same state with other values in the working and result registers (spec/10_state.md R24 to R27). -/
def scrambled (s : State) (r1 r2 raw key : Byte) (pressed : Bool) (idx : Nat) : State :=
  { s with r1 := r1, r2 := r2, raw := raw, key := key, pressed := pressed, idx := idx }

end Sys2Proof.Machine
end

