-- ==== Sys2Proof/Certificates/Slice0/Obligations.lean ====
section
/-! DEFINITION. The statements for the provers, each named for what it states. Rules are those of spec/; a log entry is
notes/assumptions/<n>.md. Where a statement speaks of the environment's answers it uses `upcoming`, which holds for every
list of answers and beyond it for every value of the free oracle; a free value (`Config.draw8`, `Config.rspFiller`) stands
for any value. -/

open Sys2Proof Sys2Proof.Machine

/-! ## Encoding -/

/-- Decoding an encoded instruction gives it back, as a word and as bytes, with RESOLVE's operand at every value. -/
def Obligations.DecodingUndoesEncoding : Prop :=
  ∀ i : Instr, decode (encode i) = .ok i ∧ decodeBytes (encodeBytes i) = .ok i

/-- R82: the opcode map as match and mask on the 10-bit word, mask 0x300. -/
def Obligations.CommandWordsDecodeByMatchAndMask : Prop :=
  ∀ w : CmdWord,
    (w &&& 0x300#10 = 0x000#10 → decode (.cmd w) = .ok .init) ∧
    (w &&& 0x300#10 = 0x100#10 → decode (.cmd w) = .ok .poll) ∧
    (w &&& 0x300#10 = 0x200#10 → decode (.cmd w) = .ok .scan) ∧
    (w &&& 0x300#10 = 0x300#10 → decode (.cmd w) = .ok (.resolve (w.setWidth 8)))

/-- R84: `arg` is ignored for op 00, 01 and 10, and the encoder writes zeros there. -/
def Obligations.ArgumentIsIgnoredWhereUnused : Prop :=
  (∀ (op : BitVec 2) (arg : Byte), op ≠ 0b11#2 → decode (.cmd (op ++ arg)) = decode (.cmd (op ++ 0#8))) ∧
  encode .init = .cmd (0b00#2 ++ 0#8) ∧ encode .poll = .cmd (0b01#2 ++ 0#8) ∧ encode .scan = .cmd (0b10#2 ++ 0#8)

/-- R73, R85(e): 0x0F and 0xF0 are the two port bytes, and no other byte is one: it is rejected by name. -/
def Obligations.OnlyTheTwoPatternsArePortBytes : Prop :=
  decode (.pat 0x0F#8) = .ok .wrIdle ∧ decode (.pat 0xF0#8) = .ok .wrScan ∧
  ∀ b : Byte, b ≠ 0x0F#8 → b ≠ 0xF0#8 → decode (.pat b) = .error (.notADrivePattern b)

/-- A few words of spec/95_test_vectors.md V6 and the two port bytes, through the host's entry. That a value of 16 bits is a
command word and one of 8 bits a port byte there is the model's choice (log 11). -/
def Obligations.WordsOfTheSpecDecode : Prop :=
  decodeTableWord 16 0x0FF = some .init ∧ decodeTableWord 16 0x1A5 = some .poll ∧
  decodeTableWord 16 0x2FF = some .scan ∧ decodeTableWord 16 0x342 = some (.resolve 0x42#8) ∧
  decodeTableWord 8 0x0F = some .wrIdle ∧ decodeTableWord 8 0xF0 = some .wrScan

/-- R78: `code` in bits 15:8 and `key` in bits 7:0, and no bit is lost either way. -/
def Obligations.KeymapEntryPacking : Prop :=
  (∀ e : KeymapEntry, (packEntry e).toNat = e.code.toNat * 256 + e.key.toNat ∧ unpackEntry (packEntry e) = e) ∧
  ∀ w : KmeWord, packEntry (unpackEntry w) = w

/-- R86: the line of an operation assembles to it, and to its command word. -/
def Obligations.ScriptLinesAssemble : Prop :=
  ∀ (i : Instr) (line : List Char), lineOf i = some line →
    assembleLine line = some (some i) ∧ ∃ w, encode i = .cmd w ∧ assemble [line] = some [w]

/-! ## Reset -/

/-- R41: what construction leaves, for every configuration, with or without a sink; `State.reset` is construction with
the configured values, T_SETTLE at 50. The unspecified registers hold free values and nothing is said of them but IDX's
range (R27). That no command is in progress and nothing issued is the model's (log 9, log 7). -/
def Obligations.ConstructionWaitsInIdle : Prop :=
  (∀ (c : Configuration) (b : Bool),
    (State.construct c b).cfg = c ∧ (State.construct c b).phase = .idle ∧ (State.construct c b).trace = [] ∧
    (State.construct c b).idx ≤ c.n ∧ (State.construct c b).inProgress = none ∧
    step (State.construct c b) = .next (State.construct c b)) ∧
  State.reset = State.construct Config.configured Config.sinkAttached ∧ State.reset.cfg.tSettle = 50

/-! ## Steps -/

/-- A step runs the decoded instruction: in IDLE with a command word issued, the step is `exec` of what the word decodes to,
the word taken from the script. -/
def Obligations.StepRunsTheIssuedCommand : Prop :=
  ∀ (s : State) (w : CmdWord) (rest : List CmdWord), s.phase = .idle → s.script = w :: rest →
    ∃ i, decode (.cmd w) = .ok i ∧ step s = exec i { s with script := rest }

/-- R141, R139: with nothing issued, the block waits in IDLE and does nothing. -/
def Obligations.IdleBlockWaitsForACommand : Prop :=
  ∀ s : State, s.phase = .idle → s.script = [] → step s = .next s

/-- R21: a command issued while an operation is in progress gets no step, and the block takes none from the host then. -/
def Obligations.BusyBlockTakesNoCommand : Prop :=
  ∀ (s : State) (i : Instr), s.phase ≠ .idle → i.format = .cmd →
    exec i s = .refused .commandWhileBusy ∧ ∃ t, step s = .next t ∧ t.script = s.script

/-- In the phases that send a port byte (R90, R94, R97), the step is `exec` of WR_IDLE or WR_SCAN with what the sequencer
adds: in I_WRITE the response and IDLE, in S_DRIVE the phase S_READ2, in S_RESTORE of a POLL the phase K_TEST, and in
S_RESTORE otherwise SCAN's response and IDLE (the model's choice for a command that has no S_RESTORE, log 10). -/
def Obligations.StepSendsThePortByteOfItsPhase : Prop :=
  ∀ s : State,
    (s.phase = .iWrite → ∃ u, exec .wrIdle s = .next u ∧ step s = .next (finish (Config.rspFiller s.responses) u)) ∧
    (s.phase = .sDrive → ∃ u, exec .wrScan s = .next u ∧ step s = .next { u with phase := .sRead2 }) ∧
    (s.phase = .sRestore → s.inProgress = some .poll →
      ∃ u, exec .wrIdle s = .next u ∧ step s = .next { u with phase := .kTest }) ∧
    (s.phase = .sRestore → s.inProgress ≠ some .poll →
      ∃ u w, exec .wrIdle s = .next u ∧ rspVal w = s.raw ∧ step s = .next (finish w u))

/-- R122: whatever the state, the machine goes on. -/
def Obligations.EveryStepAnswersANextState : Prop :=
  ∀ s : State, ∃ t, step s = .next t

/-! ## Transactions -/

/-- R46: a port write is the three calls in order; it sets PORT_OUT, appends its event and changes nothing else. -/
def Obligations.PortWriteIsOneTransaction : Prop :=
  ∀ (v : Byte) (s : State),
    portWrite v s = { s with portOut := v, trace := s.trace ++ [.write s.cfg.devAddr v] } ∧
    busCalls (portWrite v s) = busCalls s ++ [.beginTransaction s.cfg.devAddr, .write v, .endTransaction]

/-- R47: a port read asks for one byte, asks `byte_available()` exactly once, and calls `read_byte()` exactly once and
only if there is data; it appends its event and writes no state of the block and not PORT_OUT. What it does to the
environment's list of answers and to the counter is the model's (log 6). -/
def Obligations.PortReadIsOneTransaction : Prop :=
  ∀ s : State, nextAnswer s = upcoming s 0 ∧
    portRead s = { s with trace := s.trace ++ [.read s.cfg.devAddr 1 (nextAnswer s)],
                          answers := s.answers.drop 1, reads := s.reads + 1 } ∧
    (∀ v, nextAnswer s = some v →
      busCalls (portRead s) = busCalls s ++ [.beginReadRequest s.cfg.devAddr 1, .byteAvailable true, .readByte v]) ∧
    (nextAnswer s = none →
      busCalls (portRead s) = busCalls s ++ [.beginReadRequest s.cfg.devAddr 1, .byteAvailable false])

/-- WR_IDLE and WR_SCAN (R71, R72, R46) complete in every state: PORT_OUT is the byte, the write is in the trace, and
everything else is unchanged. -/
def Obligations.PortBytesAreWritten : Prop :=
  ∀ s : State,
    exec .wrIdle s = .next { s with portOut := 0x0F#8, trace := s.trace ++ [.write s.cfg.devAddr 0x0F#8] } ∧
    exec .wrScan s = .next { s with portOut := 0xF0#8, trace := s.trace ++ [.write s.cfg.devAddr 0xF0#8] }

/-- R44: every call that names a device names DEV_ADDR, in every state whose trace is in order. -/
def Obligations.EveryBusCallNamesDevAddr : Prop :=
  ∀ s : State, TraceInOrder s → ∀ call ∈ busCalls s, ∀ a, addressOf call = some a → a = s.cfg.devAddr

/-! ## INIT -/

/-- R90: INIT completes from IDLE with one write of 0x0F and a response whose fields are unspecified; no delay, no read, no
diagnostic; every register and all else keeps its value. Its word is 0x000, its argument ignored. -/
def Obligations.InitWritesTheIdlePattern : Prop :=
  encode .init = .cmd 0x000#10 ∧ (∀ arg : Byte, decode (.cmd (0b00#2 ++ arg)) = .ok .init) ∧
  ∀ s : State, s.phase = .idle →
    exec .init s = .next { s with
      inProgress := none
      portOut := 0x0F#8
      trace := s.trace ++ [.write s.cfg.devAddr 0x0F#8, .resp (Config.rspFiller s.responses)]
      responses := s.responses + 1 }

/-- R147: a second INIT does what the first does. -/
def Obligations.SecondInitDoesTheSameWrite : Prop :=
  ∀ s t : State, exec .init s = .next t →
    ∃ u w, exec .init t = .next u ∧ u.portOut = 0x0F#8 ∧ t.portOut = 0x0F#8 ∧
      u.trace = t.trace ++ [.write s.cfg.devAddr 0x0F#8, .resp w]

/-! ## SCAN -/

/-- R91, R48, R100: SCAN completes from IDLE whatever the reads answer. R1 and R2 are the bytes read, or a draw of their own
where a read had no data; RAW is their XOR; PORT_OUT ends at the idle pattern; the block is back in IDLE. -/
def Obligations.ScanReadsTwiceAndRestores : Prop :=
  ∀ s : State, s.phase = .idle → ∃ t, exec .scan s = .next t ∧
    (∀ v, upcoming s 0 = some v → t.r1 = v) ∧ (upcoming s 0 = none → t.r1 = Config.draw8 s.draws) ∧
    (∀ v, upcoming s 1 = some v → t.r2 = v) ∧ (upcoming s 1 = none → t.r2 = Config.draw8 (s.draws + 1)) ∧
    t.raw = t.r1 ^^^ t.r2 ∧ t.portOut = 0x0F#8 ∧ t.phase = .idle ∧ t.inProgress = none

/-- R96, bit by bit: RAW is R1 xor R2, and the response of SCAN carries exactly it. -/
def Obligations.ScanReturnsTheXorOfTheReads : Prop :=
  ∀ s : State, s.phase = .idle → ∃ t w before, exec .scan s = .next t ∧ t.raw = t.r1 ^^^ t.r2 ∧
    (∀ k, k < 8 → t.raw.getLsbD k = (t.r1.getLsbD k != t.r2.getLsbD k)) ∧
    t.trace = before ++ [.resp w] ∧ rspVal w = t.r1 ^^^ t.r2

/-- R99: SCAN as a function of the two answers and two draws, and its events in order. -/
def Obligations.ScanEventsInOrder : Prop :=
  ∀ s : State, s.phase = .idle → ∃ t w, exec .scan s = .next t ∧ t.raw = firstRead s ^^^ secondRead s ∧
    t.trace = s.trace
      ++ [.delay s.cfg.tSettle, .read s.cfg.devAddr 1 (upcoming s 0)]
      ++ noDataEvents .first (upcoming s 0) s.cfg.debug
      ++ [.write s.cfg.devAddr 0xF0#8, .read s.cfg.devAddr 1 (upcoming s 1)]
      ++ noDataEvents .second (upcoming s 1) s.cfg.debug
      ++ [.write s.cfg.devAddr 0x0F#8, .resp w]

/-- R103: the two raw scan bytes that say something about the reads as a whole. -/
def Obligations.ScanByteOfEqualAndOfOppositeReads : Prop :=
  ∀ s : State, s.phase = .idle → ∃ t, exec .scan s = .next t ∧
    (t.raw = 0xFF#8 ↔ t.r2 = ~~~t.r1) ∧ (t.raw = 0x00#8 ↔ t.r1 = t.r2) ∧
    (upcoming s 0 = some 0x0F#8 → upcoming s 1 = some 0xF0#8 → t.raw = 0xFF#8)

/-- The frame of SCAN: the configuration, KEY, PRESSED, IDX and the script are unchanged; of the environment's answers two
are used, of the draws two; the sink gets the no-data notices in order and nothing else (R88, R100), so nothing at all with
DEBUG at 0 or with two answers that have data. -/
def Obligations.ScanLeavesTheRestAlone : Prop :=
  ∀ s t : State, exec .scan s = .next t →
    t.cfg = s.cfg ∧ t.key = s.key ∧ t.pressed = s.pressed ∧ t.idx = s.idx ∧ t.script = s.script ∧
    t.answers = s.answers.drop 2 ∧ t.reads = s.reads + 2 ∧ t.draws = s.draws + 2 ∧
    t.sink = s.sink.map (fun got => got
      ++ noDataRecords .first (upcoming s 0) s.cfg.debug ++ noDataRecords .second (upcoming s 1) s.cfg.debug) ∧
    (s.cfg.debug = false → t.sink = s.sink) ∧
    (∀ v v', upcoming s 0 = some v → upcoming s 1 = some v' → t.sink = s.sink) ∧
    (s.sink = none → t.sink = none)

/-! ## RESOLVE -/

/-- R106: 0xFF is "no key" whatever the keymap: PRESSED is 0, KEY undefined (a draw), the keymap is not read (IDX keeps its
value) and no diagnostic is emitted. -/
def Obligations.ResolveOfNoKey : Prop :=
  ∀ s : State, s.phase = .idle → ∃ t w, exec (.resolve 0xFF#8) s = .next t ∧
    t.pressed = false ∧ t.key = Config.draw8 s.draws ∧ t.idx = s.idx ∧ t.raw = 0xFF#8 ∧
    rspPressed w = false ∧ t.trace = s.trace ++ [.resp w] ∧ t.sink = s.sink ∧ t.phase = .idle

/-- R107: the search stops at the first position that holds the code, or at N. -/
def Obligations.ResolveSearchesFromPositionZero : Prop :=
  ∀ (s : State) (b : Byte), s.phase = .idle → b ≠ 0xFF#8 → ∃ t, exec (.resolve b) s = .next t ∧
    t.idx ≤ s.cfg.n ∧ (∀ j e, j < t.idx → s.cfg.keymap[j]? = some e → e.code ≠ b) ∧
    (t.idx < s.cfg.n → ∃ e, s.cfg.keymap[t.idx]? = some e ∧ e.code = b)

/-- R108: a byte present in the keymap gives the key of its first entry, pressed. -/
def Obligations.ResolveOfAMappedCode : Prop :=
  ∀ (s : State) (b : Byte) (i : Nat) (e : KeymapEntry), s.phase = .idle → b ≠ 0xFF#8 →
    s.cfg.keymap[i]? = some e → e.code = b →
    (∀ j e', j < i → s.cfg.keymap[j]? = some e' → e'.code ≠ b) →
    ∃ t, exec (.resolve b) s = .next t ∧ t.idx = i ∧ t.key = e.key ∧ t.pressed = true

/-- R109: a byte absent from the keymap, other than 0xFF, gives the unknown-key character, pressed. -/
def Obligations.ResolveOfAnUnmappedCode : Prop :=
  ∀ (s : State) (b : Byte), s.phase = .idle → b ≠ 0xFF#8 → (∀ e ∈ s.cfg.keymap, e.code ≠ b) →
    ∃ t, exec (.resolve b) s = .next t ∧ t.idx = s.cfg.n ∧ t.key = unknownKey ∧ t.pressed = true

/-- R110: for a configuration, PRESSED, and KEY when PRESSED is 1, are a function of the byte alone; of entries with equal
codes the lowest position wins; resolving a byte twice gives the same result. -/
def Obligations.ResolveDependsOnTheByteAlone : Prop :=
  (∀ (s s' t t' : State) (b : Byte), s.cfg = s'.cfg →
    exec (.resolve b) s = .next t → exec (.resolve b) s' = .next t' →
    t.pressed = t'.pressed ∧ (t.pressed = true → t.key = t'.key)) ∧
  (∀ (s t : State) (b : Byte) (i j : Nat) (e e' : KeymapEntry), exec (.resolve b) s = .next t → t.pressed = true →
    s.cfg.keymap[i]? = some e → s.cfg.keymap[j]? = some e' → e.code = b → e'.code = b →
    (∀ k e'', k < i → s.cfg.keymap[k]? = some e'' → e''.code ≠ b) → t.key = e.key ∧ i ≤ j) ∧
  ∀ (s t : State) (b : Byte), exec (.resolve b) s = .next t → ∃ u, exec (.resolve b) t = .next u ∧
    u.pressed = t.pressed ∧ (t.pressed = true → u.key = t.key)

/-- R112, R105, R83: RESOLVE makes no port read, no port write and no delay; its only events are the Diag of key activity
with DEBUG at 1 (R111) and the Resp, which carries PRESSED, and KEY when PRESSED is 1; PORT_OUT, R1 and R2 are unchanged,
and so is all else that R105 does not name. -/
def Obligations.ResolveTouchesNeitherPortNorReads : Prop :=
  ∀ (s : State) (b : Byte), s.phase = .idle → ∃ t w, exec (.resolve b) s = .next t ∧
    t.trace = s.trace ++ rawScanEvents b s.cfg.debug ++ [.resp w] ∧
    rspPressed w = t.pressed ∧ (t.pressed = true → rspVal w = t.key) ∧
    t.portOut = s.portOut ∧ t.r1 = s.r1 ∧ t.r2 = s.r2 ∧ t.raw = b ∧ t.cfg = s.cfg ∧ t.script = s.script ∧
    t.answers = s.answers ∧ t.reads = s.reads ∧ t.phase = .idle ∧ t.inProgress = none ∧
    t.sink = s.sink.map (fun got => got ++ rawScanRecords b s.cfg.debug) ∧
    (s.cfg.debug = false → t.sink = s.sink) ∧ (s.sink = none → t.sink = none)

/-- R111, R88: with DEBUG at 1 every RESOLVE of key activity emits RawScan once, mapped or not, and a sink that is there
receives the byte in decimal and in binary, most significant bit first. -/
def Obligations.ResolveReportsKeyActivity : Prop :=
  ∀ (s : State) (b : Byte), s.phase = .idle → s.cfg.debug = true → b ≠ 0xFF#8 →
    ∃ t w, exec (.resolve b) s = .next t ∧ t.trace = s.trace ++ [.diag (.rawScan b), .resp w] ∧
      (s.sink = none → t.sink = none) ∧
      ∀ got, s.sink = some got → ∃ digits, t.sink = some (got ++ [.rawScan b.toNat digits]) ∧
        digits.length = 8 ∧ ∀ k, k < 8 → digits[k]? = some (b.getLsbD (7 - k))

/-! ## POLL -/

/-- R116: POLL completes from IDLE. Its registers and PORT_OUT are those of a scan; PRESSED is 0 exactly when RAW is 0xFF;
the last event is the one response, which carries PRESSED and KEY. -/
def Obligations.PollScansAndResolves : Prop :=
  ∀ s : State, s.phase = .idle → ∃ t w before, exec .poll s = .next t ∧
    t.r1 = firstRead s ∧ t.r2 = secondRead s ∧ t.raw = t.r1 ^^^ t.r2 ∧ t.portOut = 0x0F#8 ∧
    (t.pressed = false ↔ t.raw = 0xFF#8) ∧ t.phase = .idle ∧ t.inProgress = none ∧
    t.trace = before ++ [.resp w] ∧ rspPressed w = t.pressed ∧ rspVal w = t.key

/-- R116: the events of POLL in order: those of a scan without its response, then RawScan if there is key activity and DEBUG
is 1, then the response. -/
def Obligations.PollEventsInOrder : Prop :=
  ∀ s : State, s.phase = .idle → ∃ t w, exec .poll s = .next t ∧
    t.trace = s.trace
      ++ [.delay s.cfg.tSettle, .read s.cfg.devAddr 1 (upcoming s 0)]
      ++ noDataEvents .first (upcoming s 0) s.cfg.debug
      ++ [.write s.cfg.devAddr 0xF0#8, .read s.cfg.devAddr 1 (upcoming s 1)]
      ++ noDataEvents .second (upcoming s 1) s.cfg.debug
      ++ [.write s.cfg.devAddr 0x0F#8]
      ++ rawScanEvents t.raw s.cfg.debug
      ++ [.resp w]

/-- R121: how the host reads the response of POLL: nothing exactly when RAW is 0xFF, else the key of the first entry with
that code, or '?' if there is none. -/
def Obligations.PollOutcomesForTheHost : Prop :=
  ∀ s : State, s.phase = .idle → ∃ t w before, exec .poll s = .next t ∧ t.trace = before ++ [.resp w] ∧
    (hostReads w = none ↔ t.raw = 0xFF#8) ∧
    (t.raw ≠ 0xFF#8 → hostReads w = some
      (match s.cfg.keymap.find? (fun e => e.code == t.raw) with
        | some e => e.key
        | none => 0x3F#8))

/-- R117: POLL is SCAN followed by RESOLVE of the byte the scan left, for the same answers and draws; the only difference in
the trace is the response of the scan. -/
def Obligations.PollIsScanThenResolve : Prop :=
  ∀ s : State, s.phase = .idle → ∃ t u v : State, ∃ scanned resolved w,
    exec .poll s = .next t ∧ exec .scan s = .next u ∧ exec (.resolve u.raw) u = .next v ∧
    t.r1 = v.r1 ∧ t.r2 = v.r2 ∧ t.raw = v.raw ∧ t.key = v.key ∧ t.pressed = v.pressed ∧ t.idx = v.idx ∧
    t.portOut = v.portOut ∧
    u.trace = scanned ++ [.resp w] ∧ v.trace = scanned ++ [.resp w] ++ resolved ∧ t.trace = scanned ++ resolved

/-- The frame of POLL: the configuration and the script are unchanged, of the environment's answers two are used; without
key activity IDX keeps its value; the sink gets the no-data notices (R100), then the record of the raw byte if it is key
activity (R111; its form is log 16), so nothing with DEBUG at 0 or where there is none. -/
def Obligations.PollLeavesTheRestAlone : Prop :=
  ∀ s t : State, exec .poll s = .next t →
    t.cfg = s.cfg ∧ t.script = s.script ∧ t.answers = s.answers.drop 2 ∧ t.reads = s.reads + 2 ∧
    (t.raw = 0xFF#8 → t.idx = s.idx) ∧
    t.sink = s.sink.map (fun got => got ++ noDataRecords .first (upcoming s 0) s.cfg.debug
      ++ noDataRecords .second (upcoming s 1) s.cfg.debug ++ rawScanRecords t.raw s.cfg.debug) ∧
    (s.cfg.debug = false → t.sink = s.sink) ∧ (s.sink = none → t.sink = none)

/-! ## All operations -/

/-- R38, R122: from IDLE every command runs to its end: it sends exactly one response, as its last event, and the block is
back in IDLE. -/
def Obligations.EveryOperationEndsWithOneResponse : Prop :=
  ∀ (i : Instr) (s : State), i.format = .cmd → s.phase = .idle →
    ∃ t before w, exec i s = .next t ∧ t.trace = s.trace ++ before ++ [.resp w] ∧
      (∀ e ∈ before, isResp e = false) ∧ t.phase = .idle ∧ t.inProgress = none

/-- R29: PRESSED is written by resolving and by nothing else: INIT, SCAN and the port writes leave it, RESOLVE and POLL
overwrite it, and it is 0 then exactly when the raw scan byte is 0xFF. -/
def Obligations.PressedIsWrittenByResolvingOnly : Prop :=
  ∀ s t : State,
    (∀ i, exec i s = .next t → i = .init ∨ i = .scan ∨ i = .wrIdle ∨ i = .wrScan → t.pressed = s.pressed) ∧
    (∀ b, exec (.resolve b) s = .next t → (t.pressed = false ↔ b = 0xFF#8)) ∧
    (exec .poll s = .next t → (t.pressed = false ↔ t.raw = 0xFF#8))

/-- R34, R97: after INIT, SCAN and POLL the port is driven with the idle pattern, whatever it was before and whatever the
reads answered; RESOLVE leaves it as it was. -/
def Obligations.PortEndsAtTheIdlePattern : Prop :=
  ∀ s t : State,
    (exec .init s = .next t → t.portOut = 0x0F#8) ∧ (exec .scan s = .next t → t.portOut = 0x0F#8) ∧
    (exec .poll s = .next t → t.portOut = 0x0F#8) ∧
    ∀ b, exec (.resolve b) s = .next t → t.portOut = s.portOut

/-- R22: the configuration is loaded at construction and no operation and no step writes any of it. -/
def Obligations.ConfigurationIsNeverWritten : Prop :=
  (∀ c b, (State.construct c b).cfg = c) ∧
  (∀ (i : Instr) (s t : State), exec i s = .next t → t.cfg = s.cfg) ∧
  ∀ s t : State, step s = .next t → t.cfg = s.cfg

/-- R59: a step only adds events at the end of the trace. -/
def Obligations.TraceOnlyGrows : Prop :=
  ∀ s t : State, step s = .next t → ∃ added, t.trace = s.trace ++ added

/-- R25, R30, R41: no operation depends on what an earlier one left in a working or result register: with any other values
there, a command makes the same events and leaves the same PORT_OUT. -/
def Obligations.OldRegistersAreNeverObserved : Prop :=
  ∀ (i : Instr) (s t : State) (r1 r2 raw key : Byte) (pressed : Bool) (idx : Nat),
    exec i s = .next t →
      ∃ u, exec i (scrambled s r1 r2 raw key pressed idx) = .next u ∧ u.trace = t.trace ∧ u.portOut = t.portOut

/-- R137: DEBUG and the sink are observation only. Setting DEBUG to 0 and taking the diagnostics away commutes with every
step: registers, PORT_OUT, bus events and responses are the same. -/
def Obligations.DebugIsObservationOnly : Prop :=
  ∀ s t : State, step s = .next t → step (quiet s) = .next (quiet t)

/-- R36, R67: an absent sink stays absent, and whatever sink there is, a step does the same to everything else. That the
Diag events stand in the trace without a sink too is the model's choice (log 15), which spec/92_eei_decisions.md D15 allows
beside R36's dropping them. -/
def Obligations.SinkChangesNothingElse : Prop :=
  ∀ (s t : State) (sink : Option (List DiagRecord)), step s = .next t →
    ∃ sink', step (withSink sink s) = .next (withSink sink' t) ∧ (sink = none → sink' = none)

/-! ## The transition table -/

/-- R32: the rows of the table that leave a phase other than IDLE, as steps of the machine, with the response where the row
says that it is sent (R83) and no response where it does not. In K_SEARCH, where RAW is not 0xFF (the invariant
SequencerInOrder), PRESSED ends at 1 (R108, R109); 0x3F is presumed (log 20). -/
def Obligations.PhasesFollowTheTransitionTable : Prop :=
  ∀ s t : State, s.phase ≠ .idle → step s = .next t →
    (s.phase = .iWrite → t.phase = .idle ∧ ∃ w, t.trace = s.trace ++ [.write s.cfg.devAddr 0x0F#8, .resp w]) ∧
    (s.phase = .sSettle → t.phase = .sRead1 ∧ t.trace = s.trace ++ [.delay s.cfg.tSettle]) ∧
    (s.phase = .sRead1 → t.phase = .sDrive ∧ t.trace = s.trace ++ [.read s.cfg.devAddr 1 (upcoming s 0)]
      ++ noDataEvents .first (upcoming s 0) s.cfg.debug) ∧
    (s.phase = .sDrive → t.phase = .sRead2 ∧ t.trace = s.trace ++ [.write s.cfg.devAddr 0xF0#8]) ∧
    (s.phase = .sRead2 → t.phase = .sXor ∧ t.trace = s.trace ++ [.read s.cfg.devAddr 1 (upcoming s 0)]
      ++ noDataEvents .second (upcoming s 0) s.cfg.debug) ∧
    (s.phase = .sXor → t.phase = .sRestore ∧ t.raw = s.r1 ^^^ s.r2 ∧ t.trace = s.trace) ∧
    (s.phase = .sRestore → s.inProgress = some .scan → t.phase = .idle ∧
      ∃ w, t.trace = s.trace ++ [.write s.cfg.devAddr 0x0F#8, .resp w] ∧ rspVal w = s.raw) ∧
    (s.phase = .sRestore → s.inProgress = some .poll → t.phase = .kTest ∧
      t.trace = s.trace ++ [.write s.cfg.devAddr 0x0F#8]) ∧
    (s.phase = .kTest → s.raw = 0xFF#8 → t.phase = .idle ∧ t.pressed = false ∧ RespondsWithResult s.trace t) ∧
    (s.phase = .kTest → s.raw ≠ 0xFF#8 → t.phase = .kSearch ∧ t.idx = 0 ∧
      t.trace = s.trace ++ rawScanEvents s.raw s.cfg.debug) ∧
    (∀ e, s.phase = .kSearch → s.cfg.keymap[s.idx]? = some e → e.code ≠ s.raw →
      t.phase = .kSearch ∧ t.idx = s.idx + 1 ∧ t.trace = s.trace) ∧
    (∀ e, s.phase = .kSearch → s.cfg.keymap[s.idx]? = some e → e.code = s.raw →
      t.phase = .idle ∧ t.key = e.key ∧ t.pressed = (s.raw != 0xFF#8) ∧ RespondsWithResult s.trace t ∧
      (SequencerInOrder s → t.pressed = true)) ∧
    (s.phase = .kSearch → s.idx = s.cfg.n → t.phase = .idle ∧ t.key = 0x3F#8 ∧ t.pressed = (s.raw != 0xFF#8) ∧
      RespondsWithResult s.trace t ∧ (SequencerInOrder s → t.pressed = true))

/-- R32: an operation run at once is its run through the transition table: taking the command is one transition, and at most
`8 + N` more lead to the same state, each of them from a phase other than IDLE. -/
def Obligations.OperationsRunTheTransitionTable : Prop :=
  ∀ (i : Instr) (s : State), i.format = .cmd → s.phase = .idle →
    ∃ t k, exec i s = .next t ∧ 1 + k ≤ 9 + s.cfg.n ∧ advanceBy k (takeCommand i s) = t ∧
      (∀ j, j < k → (advanceBy j (takeCommand i s)).phase ≠ .idle ∧
        step (advanceBy j (takeCommand i s)) = .next (advanceBy (j + 1) (takeCommand i s)))

/-! ## Invariants every step keeps -/

/-- R27, R31, R32: every step keeps the sequencer in order. -/
def Obligations.StepsKeepTheSequencerInOrder : Prop :=
  ∀ s t : State, SequencerInOrder s → step s = .next t → SequencerInOrder t

/-- R34: every step keeps the port in order: once the idle pattern is established, IDLE always finds it. -/
def Obligations.StepsKeepThePortInOrder : Prop :=
  ∀ s t : State, PortInOrder s → step s = .next t → PortInOrder t

/-- R33, R73, R45, spec/95_test_vectors.md V7: every step keeps the trace in order. -/
def Obligations.StepsKeepTheTraceInOrder : Prop :=
  ∀ s t : State, TraceInOrder s → step s = .next t → TraceInOrder t

/-- The sequencer and the trace are in order after construction, and so after reset. The port is not claimed to be: its
pattern is unspecified until the first write (R142). -/
def Obligations.ResetIsInOrder : Prop :=
  (∀ c b, SequencerInOrder (State.construct c b) ∧ TraceInOrder (State.construct c b)) ∧
  SequencerInOrder State.reset ∧ TraceInOrder State.reset

/-! ## The keymap and the keypad -/

/-- R114: what `KeymapUnique` says. -/
def Obligations.KeymapUniqueMeansNoCodeTwice : Prop :=
  ∀ keymap : List KeymapEntry, keymapUnique keymap = true ↔
    ∀ (i j : Nat) (e e' : KeymapEntry), i < j → keymap[i]? = some e → keymap[j]? = some e' → e.code ≠ e'.code

/-- R115: with a keymap that covers a list of codes, a byte of that list other than 0xFF is resolved to the key of an entry
that holds it. -/
def Obligations.CoveredCodesResolveToAnEntry : Prop :=
  ∀ (s : State) (codes : List Byte) (b : Byte), s.phase = .idle → keymapCovers s.cfg.keymap codes = true →
    b ∈ codes → b ≠ 0xFF#8 →
    ∃ t e, exec (.resolve b) s = .next t ∧ e ∈ s.cfg.keymap ∧ e.code = b ∧ t.key = e.key ∧ t.pressed = true

/-- Under the informative keypad (spec/93_implementation_defined.md G4; PRESUMED, log 24) and with the idle pattern asserted
(R145), POLL reports nothing when no key is held, and the key of the held key's entry in a keymap without duplicates. -/
def Obligations.PollDetectsTheHeldKey : Prop :=
  ∀ (s : State) (held : Held) (rest : List (Option Byte)), s.phase = .idle → s.portOut = 0x0F#8 →
    s.answers = some (keypadReads held s.portOut) :: some (keypadReads held 0xF0#8) :: rest →
    ∃ t, exec .poll s = .next t ∧
      (held = none → t.raw = 0xFF#8 ∧ t.pressed = false) ∧
      ∀ r c, held = some (r, c) → t.raw = keypadCode r c ∧ t.pressed = true ∧
        ∀ e ∈ s.cfg.keymap, keymapUnique s.cfg.keymap = true → e.code = keypadCode r c → t.key = e.key
end

