-- ==== Sys2Proof/Laws/State.lean ====
section
/-! SUPPORT. What each shared update leaves in each field of the state: one lemma per field per update, so that no proof
unfolds a record update. -/

namespace Sys2Proof.Machine

/-! ## enter -/

@[simp] theorem enter_cfg (p : Phase) (s : State) : (enter p s).cfg = s.cfg := rfl
@[simp] theorem enter_phase (p : Phase) (s : State) : (enter p s).phase = p := rfl
@[simp] theorem enter_inProgress (p : Phase) (s : State) : (enter p s).inProgress = s.inProgress := rfl
@[simp] theorem enter_r1 (p : Phase) (s : State) : (enter p s).r1 = s.r1 := rfl
@[simp] theorem enter_r2 (p : Phase) (s : State) : (enter p s).r2 = s.r2 := rfl
@[simp] theorem enter_raw (p : Phase) (s : State) : (enter p s).raw = s.raw := rfl
@[simp] theorem enter_key (p : Phase) (s : State) : (enter p s).key = s.key := rfl
@[simp] theorem enter_pressed (p : Phase) (s : State) : (enter p s).pressed = s.pressed := rfl
@[simp] theorem enter_idx (p : Phase) (s : State) : (enter p s).idx = s.idx := rfl
@[simp] theorem enter_portOut (p : Phase) (s : State) : (enter p s).portOut = s.portOut := rfl
@[simp] theorem enter_trace (p : Phase) (s : State) : (enter p s).trace = s.trace := rfl
@[simp] theorem enter_sink (p : Phase) (s : State) : (enter p s).sink = s.sink := rfl
@[simp] theorem enter_script (p : Phase) (s : State) : (enter p s).script = s.script := rfl
@[simp] theorem enter_answers (p : Phase) (s : State) : (enter p s).answers = s.answers := rfl
@[simp] theorem enter_reads (p : Phase) (s : State) : (enter p s).reads = s.reads := rfl
@[simp] theorem enter_draws (p : Phase) (s : State) : (enter p s).draws = s.draws := rfl
@[simp] theorem enter_responses (p : Phase) (s : State) : (enter p s).responses = s.responses := rfl

/-! ## setR1 -/

@[simp] theorem setR1_cfg (v : Byte) (s : State) : (setR1 v s).cfg = s.cfg := rfl
@[simp] theorem setR1_phase (v : Byte) (s : State) : (setR1 v s).phase = s.phase := rfl
@[simp] theorem setR1_inProgress (v : Byte) (s : State) : (setR1 v s).inProgress = s.inProgress := rfl
@[simp] theorem setR1_r1 (v : Byte) (s : State) : (setR1 v s).r1 = v := rfl
@[simp] theorem setR1_r2 (v : Byte) (s : State) : (setR1 v s).r2 = s.r2 := rfl
@[simp] theorem setR1_raw (v : Byte) (s : State) : (setR1 v s).raw = s.raw := rfl
@[simp] theorem setR1_key (v : Byte) (s : State) : (setR1 v s).key = s.key := rfl
@[simp] theorem setR1_pressed (v : Byte) (s : State) : (setR1 v s).pressed = s.pressed := rfl
@[simp] theorem setR1_idx (v : Byte) (s : State) : (setR1 v s).idx = s.idx := rfl
@[simp] theorem setR1_portOut (v : Byte) (s : State) : (setR1 v s).portOut = s.portOut := rfl
@[simp] theorem setR1_trace (v : Byte) (s : State) : (setR1 v s).trace = s.trace := rfl
@[simp] theorem setR1_sink (v : Byte) (s : State) : (setR1 v s).sink = s.sink := rfl
@[simp] theorem setR1_script (v : Byte) (s : State) : (setR1 v s).script = s.script := rfl
@[simp] theorem setR1_answers (v : Byte) (s : State) : (setR1 v s).answers = s.answers := rfl
@[simp] theorem setR1_reads (v : Byte) (s : State) : (setR1 v s).reads = s.reads := rfl
@[simp] theorem setR1_draws (v : Byte) (s : State) : (setR1 v s).draws = s.draws := rfl
@[simp] theorem setR1_responses (v : Byte) (s : State) : (setR1 v s).responses = s.responses := rfl

/-! ## setR2 -/

@[simp] theorem setR2_cfg (v : Byte) (s : State) : (setR2 v s).cfg = s.cfg := rfl
@[simp] theorem setR2_phase (v : Byte) (s : State) : (setR2 v s).phase = s.phase := rfl
@[simp] theorem setR2_inProgress (v : Byte) (s : State) : (setR2 v s).inProgress = s.inProgress := rfl
@[simp] theorem setR2_r1 (v : Byte) (s : State) : (setR2 v s).r1 = s.r1 := rfl
@[simp] theorem setR2_r2 (v : Byte) (s : State) : (setR2 v s).r2 = v := rfl
@[simp] theorem setR2_raw (v : Byte) (s : State) : (setR2 v s).raw = s.raw := rfl
@[simp] theorem setR2_key (v : Byte) (s : State) : (setR2 v s).key = s.key := rfl
@[simp] theorem setR2_pressed (v : Byte) (s : State) : (setR2 v s).pressed = s.pressed := rfl
@[simp] theorem setR2_idx (v : Byte) (s : State) : (setR2 v s).idx = s.idx := rfl
@[simp] theorem setR2_portOut (v : Byte) (s : State) : (setR2 v s).portOut = s.portOut := rfl
@[simp] theorem setR2_trace (v : Byte) (s : State) : (setR2 v s).trace = s.trace := rfl
@[simp] theorem setR2_sink (v : Byte) (s : State) : (setR2 v s).sink = s.sink := rfl
@[simp] theorem setR2_script (v : Byte) (s : State) : (setR2 v s).script = s.script := rfl
@[simp] theorem setR2_answers (v : Byte) (s : State) : (setR2 v s).answers = s.answers := rfl
@[simp] theorem setR2_reads (v : Byte) (s : State) : (setR2 v s).reads = s.reads := rfl
@[simp] theorem setR2_draws (v : Byte) (s : State) : (setR2 v s).draws = s.draws := rfl
@[simp] theorem setR2_responses (v : Byte) (s : State) : (setR2 v s).responses = s.responses := rfl

/-! ## setRaw -/

@[simp] theorem setRaw_cfg (v : Byte) (s : State) : (setRaw v s).cfg = s.cfg := rfl
@[simp] theorem setRaw_phase (v : Byte) (s : State) : (setRaw v s).phase = s.phase := rfl
@[simp] theorem setRaw_inProgress (v : Byte) (s : State) : (setRaw v s).inProgress = s.inProgress := rfl
@[simp] theorem setRaw_r1 (v : Byte) (s : State) : (setRaw v s).r1 = s.r1 := rfl
@[simp] theorem setRaw_r2 (v : Byte) (s : State) : (setRaw v s).r2 = s.r2 := rfl
@[simp] theorem setRaw_raw (v : Byte) (s : State) : (setRaw v s).raw = v := rfl
@[simp] theorem setRaw_key (v : Byte) (s : State) : (setRaw v s).key = s.key := rfl
@[simp] theorem setRaw_pressed (v : Byte) (s : State) : (setRaw v s).pressed = s.pressed := rfl
@[simp] theorem setRaw_idx (v : Byte) (s : State) : (setRaw v s).idx = s.idx := rfl
@[simp] theorem setRaw_portOut (v : Byte) (s : State) : (setRaw v s).portOut = s.portOut := rfl
@[simp] theorem setRaw_trace (v : Byte) (s : State) : (setRaw v s).trace = s.trace := rfl
@[simp] theorem setRaw_sink (v : Byte) (s : State) : (setRaw v s).sink = s.sink := rfl
@[simp] theorem setRaw_script (v : Byte) (s : State) : (setRaw v s).script = s.script := rfl
@[simp] theorem setRaw_answers (v : Byte) (s : State) : (setRaw v s).answers = s.answers := rfl
@[simp] theorem setRaw_reads (v : Byte) (s : State) : (setRaw v s).reads = s.reads := rfl
@[simp] theorem setRaw_draws (v : Byte) (s : State) : (setRaw v s).draws = s.draws := rfl
@[simp] theorem setRaw_responses (v : Byte) (s : State) : (setRaw v s).responses = s.responses := rfl

/-! ## setIdx -/

@[simp] theorem setIdx_cfg (i : Nat) (s : State) : (setIdx i s).cfg = s.cfg := rfl
@[simp] theorem setIdx_phase (i : Nat) (s : State) : (setIdx i s).phase = s.phase := rfl
@[simp] theorem setIdx_inProgress (i : Nat) (s : State) : (setIdx i s).inProgress = s.inProgress := rfl
@[simp] theorem setIdx_r1 (i : Nat) (s : State) : (setIdx i s).r1 = s.r1 := rfl
@[simp] theorem setIdx_r2 (i : Nat) (s : State) : (setIdx i s).r2 = s.r2 := rfl
@[simp] theorem setIdx_raw (i : Nat) (s : State) : (setIdx i s).raw = s.raw := rfl
@[simp] theorem setIdx_key (i : Nat) (s : State) : (setIdx i s).key = s.key := rfl
@[simp] theorem setIdx_pressed (i : Nat) (s : State) : (setIdx i s).pressed = s.pressed := rfl
@[simp] theorem setIdx_idx (i : Nat) (s : State) : (setIdx i s).idx = i := rfl
@[simp] theorem setIdx_portOut (i : Nat) (s : State) : (setIdx i s).portOut = s.portOut := rfl
@[simp] theorem setIdx_trace (i : Nat) (s : State) : (setIdx i s).trace = s.trace := rfl
@[simp] theorem setIdx_sink (i : Nat) (s : State) : (setIdx i s).sink = s.sink := rfl
@[simp] theorem setIdx_script (i : Nat) (s : State) : (setIdx i s).script = s.script := rfl
@[simp] theorem setIdx_answers (i : Nat) (s : State) : (setIdx i s).answers = s.answers := rfl
@[simp] theorem setIdx_reads (i : Nat) (s : State) : (setIdx i s).reads = s.reads := rfl
@[simp] theorem setIdx_draws (i : Nat) (s : State) : (setIdx i s).draws = s.draws := rfl
@[simp] theorem setIdx_responses (i : Nat) (s : State) : (setIdx i s).responses = s.responses := rfl

/-! ## setResult -/

@[simp] theorem setResult_cfg (k : Byte) (p : Bool) (s : State) : (setResult k p s).cfg = s.cfg := rfl
@[simp] theorem setResult_phase (k : Byte) (p : Bool) (s : State) : (setResult k p s).phase = s.phase := rfl
@[simp] theorem setResult_inProgress (k : Byte) (p : Bool) (s : State) : (setResult k p s).inProgress = s.inProgress := rfl
@[simp] theorem setResult_r1 (k : Byte) (p : Bool) (s : State) : (setResult k p s).r1 = s.r1 := rfl
@[simp] theorem setResult_r2 (k : Byte) (p : Bool) (s : State) : (setResult k p s).r2 = s.r2 := rfl
@[simp] theorem setResult_raw (k : Byte) (p : Bool) (s : State) : (setResult k p s).raw = s.raw := rfl
@[simp] theorem setResult_key (k : Byte) (p : Bool) (s : State) : (setResult k p s).key = k := rfl
@[simp] theorem setResult_pressed (k : Byte) (p : Bool) (s : State) : (setResult k p s).pressed = p := rfl
@[simp] theorem setResult_idx (k : Byte) (p : Bool) (s : State) : (setResult k p s).idx = s.idx := rfl
@[simp] theorem setResult_portOut (k : Byte) (p : Bool) (s : State) : (setResult k p s).portOut = s.portOut := rfl
@[simp] theorem setResult_trace (k : Byte) (p : Bool) (s : State) : (setResult k p s).trace = s.trace := rfl
@[simp] theorem setResult_sink (k : Byte) (p : Bool) (s : State) : (setResult k p s).sink = s.sink := rfl
@[simp] theorem setResult_script (k : Byte) (p : Bool) (s : State) : (setResult k p s).script = s.script := rfl
@[simp] theorem setResult_answers (k : Byte) (p : Bool) (s : State) : (setResult k p s).answers = s.answers := rfl
@[simp] theorem setResult_reads (k : Byte) (p : Bool) (s : State) : (setResult k p s).reads = s.reads := rfl
@[simp] theorem setResult_draws (k : Byte) (p : Bool) (s : State) : (setResult k p s).draws = s.draws := rfl
@[simp] theorem setResult_responses (k : Byte) (p : Bool) (s : State) : (setResult k p s).responses = s.responses := rfl

/-! ## emit -/

@[simp] theorem emit_cfg (e : Event) (s : State) : (emit e s).cfg = s.cfg := rfl
@[simp] theorem emit_phase (e : Event) (s : State) : (emit e s).phase = s.phase := rfl
@[simp] theorem emit_inProgress (e : Event) (s : State) : (emit e s).inProgress = s.inProgress := rfl
@[simp] theorem emit_r1 (e : Event) (s : State) : (emit e s).r1 = s.r1 := rfl
@[simp] theorem emit_r2 (e : Event) (s : State) : (emit e s).r2 = s.r2 := rfl
@[simp] theorem emit_raw (e : Event) (s : State) : (emit e s).raw = s.raw := rfl
@[simp] theorem emit_key (e : Event) (s : State) : (emit e s).key = s.key := rfl
@[simp] theorem emit_pressed (e : Event) (s : State) : (emit e s).pressed = s.pressed := rfl
@[simp] theorem emit_idx (e : Event) (s : State) : (emit e s).idx = s.idx := rfl
@[simp] theorem emit_portOut (e : Event) (s : State) : (emit e s).portOut = s.portOut := rfl
@[simp] theorem emit_trace (e : Event) (s : State) : (emit e s).trace = s.trace ++ [e] := rfl
@[simp] theorem emit_sink (e : Event) (s : State) : (emit e s).sink = s.sink := rfl
@[simp] theorem emit_script (e : Event) (s : State) : (emit e s).script = s.script := rfl
@[simp] theorem emit_answers (e : Event) (s : State) : (emit e s).answers = s.answers := rfl
@[simp] theorem emit_reads (e : Event) (s : State) : (emit e s).reads = s.reads := rfl
@[simp] theorem emit_draws (e : Event) (s : State) : (emit e s).draws = s.draws := rfl
@[simp] theorem emit_responses (e : Event) (s : State) : (emit e s).responses = s.responses := rfl

/-! ## delay -/

@[simp] theorem delay_cfg (n : Nat) (s : State) : (delay n s).cfg = s.cfg := rfl
@[simp] theorem delay_phase (n : Nat) (s : State) : (delay n s).phase = s.phase := rfl
@[simp] theorem delay_inProgress (n : Nat) (s : State) : (delay n s).inProgress = s.inProgress := rfl
@[simp] theorem delay_r1 (n : Nat) (s : State) : (delay n s).r1 = s.r1 := rfl
@[simp] theorem delay_r2 (n : Nat) (s : State) : (delay n s).r2 = s.r2 := rfl
@[simp] theorem delay_raw (n : Nat) (s : State) : (delay n s).raw = s.raw := rfl
@[simp] theorem delay_key (n : Nat) (s : State) : (delay n s).key = s.key := rfl
@[simp] theorem delay_pressed (n : Nat) (s : State) : (delay n s).pressed = s.pressed := rfl
@[simp] theorem delay_idx (n : Nat) (s : State) : (delay n s).idx = s.idx := rfl
@[simp] theorem delay_portOut (n : Nat) (s : State) : (delay n s).portOut = s.portOut := rfl
@[simp] theorem delay_trace (n : Nat) (s : State) : (delay n s).trace = s.trace ++ [.delay n] := rfl
@[simp] theorem delay_sink (n : Nat) (s : State) : (delay n s).sink = s.sink := rfl
@[simp] theorem delay_script (n : Nat) (s : State) : (delay n s).script = s.script := rfl
@[simp] theorem delay_answers (n : Nat) (s : State) : (delay n s).answers = s.answers := rfl
@[simp] theorem delay_reads (n : Nat) (s : State) : (delay n s).reads = s.reads := rfl
@[simp] theorem delay_draws (n : Nat) (s : State) : (delay n s).draws = s.draws := rfl
@[simp] theorem delay_responses (n : Nat) (s : State) : (delay n s).responses = s.responses := rfl

/-! ## portWrite -/

@[simp] theorem portWrite_cfg (v : Byte) (s : State) : (portWrite v s).cfg = s.cfg := rfl
@[simp] theorem portWrite_phase (v : Byte) (s : State) : (portWrite v s).phase = s.phase := rfl
@[simp] theorem portWrite_inProgress (v : Byte) (s : State) : (portWrite v s).inProgress = s.inProgress := rfl
@[simp] theorem portWrite_r1 (v : Byte) (s : State) : (portWrite v s).r1 = s.r1 := rfl
@[simp] theorem portWrite_r2 (v : Byte) (s : State) : (portWrite v s).r2 = s.r2 := rfl
@[simp] theorem portWrite_raw (v : Byte) (s : State) : (portWrite v s).raw = s.raw := rfl
@[simp] theorem portWrite_key (v : Byte) (s : State) : (portWrite v s).key = s.key := rfl
@[simp] theorem portWrite_pressed (v : Byte) (s : State) : (portWrite v s).pressed = s.pressed := rfl
@[simp] theorem portWrite_idx (v : Byte) (s : State) : (portWrite v s).idx = s.idx := rfl
@[simp] theorem portWrite_portOut (v : Byte) (s : State) : (portWrite v s).portOut = v := rfl
@[simp] theorem portWrite_trace (v : Byte) (s : State) : (portWrite v s).trace = s.trace ++ [.write s.cfg.devAddr v] := rfl
@[simp] theorem portWrite_sink (v : Byte) (s : State) : (portWrite v s).sink = s.sink := rfl
@[simp] theorem portWrite_script (v : Byte) (s : State) : (portWrite v s).script = s.script := rfl
@[simp] theorem portWrite_answers (v : Byte) (s : State) : (portWrite v s).answers = s.answers := rfl
@[simp] theorem portWrite_reads (v : Byte) (s : State) : (portWrite v s).reads = s.reads := rfl
@[simp] theorem portWrite_draws (v : Byte) (s : State) : (portWrite v s).draws = s.draws := rfl
@[simp] theorem portWrite_responses (v : Byte) (s : State) : (portWrite v s).responses = s.responses := rfl

/-! ## portRead -/

@[simp] theorem portRead_cfg (s : State) : (portRead s).cfg = s.cfg := rfl
@[simp] theorem portRead_phase (s : State) : (portRead s).phase = s.phase := rfl
@[simp] theorem portRead_inProgress (s : State) : (portRead s).inProgress = s.inProgress := rfl
@[simp] theorem portRead_r1 (s : State) : (portRead s).r1 = s.r1 := rfl
@[simp] theorem portRead_r2 (s : State) : (portRead s).r2 = s.r2 := rfl
@[simp] theorem portRead_raw (s : State) : (portRead s).raw = s.raw := rfl
@[simp] theorem portRead_key (s : State) : (portRead s).key = s.key := rfl
@[simp] theorem portRead_pressed (s : State) : (portRead s).pressed = s.pressed := rfl
@[simp] theorem portRead_idx (s : State) : (portRead s).idx = s.idx := rfl
@[simp] theorem portRead_portOut (s : State) : (portRead s).portOut = s.portOut := rfl
@[simp] theorem portRead_trace (s : State) : (portRead s).trace = s.trace ++ [.read s.cfg.devAddr 1 (nextAnswer s)] := rfl
@[simp] theorem portRead_sink (s : State) : (portRead s).sink = s.sink := rfl
@[simp] theorem portRead_script (s : State) : (portRead s).script = s.script := rfl
@[simp] theorem portRead_answers (s : State) : (portRead s).answers = s.answers.tail := rfl
@[simp] theorem portRead_reads (s : State) : (portRead s).reads = s.reads + 1 := rfl
@[simp] theorem portRead_draws (s : State) : (portRead s).draws = s.draws := rfl
@[simp] theorem portRead_responses (s : State) : (portRead s).responses = s.responses := rfl

/-! ## afterDraw -/

@[simp] theorem afterDraw_cfg (s : State) : (afterDraw s).cfg = s.cfg := rfl
@[simp] theorem afterDraw_phase (s : State) : (afterDraw s).phase = s.phase := rfl
@[simp] theorem afterDraw_inProgress (s : State) : (afterDraw s).inProgress = s.inProgress := rfl
@[simp] theorem afterDraw_r1 (s : State) : (afterDraw s).r1 = s.r1 := rfl
@[simp] theorem afterDraw_r2 (s : State) : (afterDraw s).r2 = s.r2 := rfl
@[simp] theorem afterDraw_raw (s : State) : (afterDraw s).raw = s.raw := rfl
@[simp] theorem afterDraw_key (s : State) : (afterDraw s).key = s.key := rfl
@[simp] theorem afterDraw_pressed (s : State) : (afterDraw s).pressed = s.pressed := rfl
@[simp] theorem afterDraw_idx (s : State) : (afterDraw s).idx = s.idx := rfl
@[simp] theorem afterDraw_portOut (s : State) : (afterDraw s).portOut = s.portOut := rfl
@[simp] theorem afterDraw_trace (s : State) : (afterDraw s).trace = s.trace := rfl
@[simp] theorem afterDraw_sink (s : State) : (afterDraw s).sink = s.sink := rfl
@[simp] theorem afterDraw_script (s : State) : (afterDraw s).script = s.script := rfl
@[simp] theorem afterDraw_answers (s : State) : (afterDraw s).answers = s.answers := rfl
@[simp] theorem afterDraw_reads (s : State) : (afterDraw s).reads = s.reads := rfl
@[simp] theorem afterDraw_draws (s : State) : (afterDraw s).draws = s.draws + 1 := rfl
@[simp] theorem afterDraw_responses (s : State) : (afterDraw s).responses = s.responses := rfl

/-! ## respond -/

@[simp] theorem respond_cfg (w : RspWord) (s : State) : (respond w s).cfg = s.cfg := rfl
@[simp] theorem respond_phase (w : RspWord) (s : State) : (respond w s).phase = s.phase := rfl
@[simp] theorem respond_inProgress (w : RspWord) (s : State) : (respond w s).inProgress = s.inProgress := rfl
@[simp] theorem respond_r1 (w : RspWord) (s : State) : (respond w s).r1 = s.r1 := rfl
@[simp] theorem respond_r2 (w : RspWord) (s : State) : (respond w s).r2 = s.r2 := rfl
@[simp] theorem respond_raw (w : RspWord) (s : State) : (respond w s).raw = s.raw := rfl
@[simp] theorem respond_key (w : RspWord) (s : State) : (respond w s).key = s.key := rfl
@[simp] theorem respond_pressed (w : RspWord) (s : State) : (respond w s).pressed = s.pressed := rfl
@[simp] theorem respond_idx (w : RspWord) (s : State) : (respond w s).idx = s.idx := rfl
@[simp] theorem respond_portOut (w : RspWord) (s : State) : (respond w s).portOut = s.portOut := rfl
@[simp] theorem respond_trace (w : RspWord) (s : State) : (respond w s).trace = s.trace ++ [.resp w] := rfl
@[simp] theorem respond_sink (w : RspWord) (s : State) : (respond w s).sink = s.sink := rfl
@[simp] theorem respond_script (w : RspWord) (s : State) : (respond w s).script = s.script := rfl
@[simp] theorem respond_answers (w : RspWord) (s : State) : (respond w s).answers = s.answers := rfl
@[simp] theorem respond_reads (w : RspWord) (s : State) : (respond w s).reads = s.reads := rfl
@[simp] theorem respond_draws (w : RspWord) (s : State) : (respond w s).draws = s.draws := rfl
@[simp] theorem respond_responses (w : RspWord) (s : State) : (respond w s).responses = s.responses + 1 := rfl

/-! ## begin -/

@[simp] theorem begin_cfg (op : Operation) (p : Phase) (s : State) : (begin op p s).cfg = s.cfg := rfl
@[simp] theorem begin_phase (op : Operation) (p : Phase) (s : State) : (begin op p s).phase = p := rfl
@[simp] theorem begin_inProgress (op : Operation) (p : Phase) (s : State) : (begin op p s).inProgress = some op := rfl
@[simp] theorem begin_r1 (op : Operation) (p : Phase) (s : State) : (begin op p s).r1 = s.r1 := rfl
@[simp] theorem begin_r2 (op : Operation) (p : Phase) (s : State) : (begin op p s).r2 = s.r2 := rfl
@[simp] theorem begin_raw (op : Operation) (p : Phase) (s : State) : (begin op p s).raw = s.raw := rfl
@[simp] theorem begin_key (op : Operation) (p : Phase) (s : State) : (begin op p s).key = s.key := rfl
@[simp] theorem begin_pressed (op : Operation) (p : Phase) (s : State) : (begin op p s).pressed = s.pressed := rfl
@[simp] theorem begin_idx (op : Operation) (p : Phase) (s : State) : (begin op p s).idx = s.idx := rfl
@[simp] theorem begin_portOut (op : Operation) (p : Phase) (s : State) : (begin op p s).portOut = s.portOut := rfl
@[simp] theorem begin_trace (op : Operation) (p : Phase) (s : State) : (begin op p s).trace = s.trace := rfl
@[simp] theorem begin_sink (op : Operation) (p : Phase) (s : State) : (begin op p s).sink = s.sink := rfl
@[simp] theorem begin_script (op : Operation) (p : Phase) (s : State) : (begin op p s).script = s.script := rfl
@[simp] theorem begin_answers (op : Operation) (p : Phase) (s : State) : (begin op p s).answers = s.answers := rfl
@[simp] theorem begin_reads (op : Operation) (p : Phase) (s : State) : (begin op p s).reads = s.reads := rfl
@[simp] theorem begin_draws (op : Operation) (p : Phase) (s : State) : (begin op p s).draws = s.draws := rfl
@[simp] theorem begin_responses (op : Operation) (p : Phase) (s : State) : (begin op p s).responses = s.responses := rfl

/-! ## finish -/

@[simp] theorem finish_cfg (w : RspWord) (s : State) : (finish w s).cfg = s.cfg := rfl
@[simp] theorem finish_phase (w : RspWord) (s : State) : (finish w s).phase = .idle := rfl
@[simp] theorem finish_inProgress (w : RspWord) (s : State) : (finish w s).inProgress = none := rfl
@[simp] theorem finish_r1 (w : RspWord) (s : State) : (finish w s).r1 = s.r1 := rfl
@[simp] theorem finish_r2 (w : RspWord) (s : State) : (finish w s).r2 = s.r2 := rfl
@[simp] theorem finish_raw (w : RspWord) (s : State) : (finish w s).raw = s.raw := rfl
@[simp] theorem finish_key (w : RspWord) (s : State) : (finish w s).key = s.key := rfl
@[simp] theorem finish_pressed (w : RspWord) (s : State) : (finish w s).pressed = s.pressed := rfl
@[simp] theorem finish_idx (w : RspWord) (s : State) : (finish w s).idx = s.idx := rfl
@[simp] theorem finish_portOut (w : RspWord) (s : State) : (finish w s).portOut = s.portOut := rfl
@[simp] theorem finish_trace (w : RspWord) (s : State) : (finish w s).trace = s.trace ++ [.resp w] := rfl
@[simp] theorem finish_sink (w : RspWord) (s : State) : (finish w s).sink = s.sink := rfl
@[simp] theorem finish_script (w : RspWord) (s : State) : (finish w s).script = s.script := rfl
@[simp] theorem finish_answers (w : RspWord) (s : State) : (finish w s).answers = s.answers := rfl
@[simp] theorem finish_reads (w : RspWord) (s : State) : (finish w s).reads = s.reads := rfl
@[simp] theorem finish_draws (w : RspWord) (s : State) : (finish w s).draws = s.draws := rfl
@[simp] theorem finish_responses (w : RspWord) (s : State) : (finish w s).responses = s.responses + 1 := rfl

/-! ## writeIdle -/

@[simp] theorem writeIdle_cfg (s : State) : (writeIdle s).cfg = s.cfg := rfl
@[simp] theorem writeIdle_phase (s : State) : (writeIdle s).phase = s.phase := rfl
@[simp] theorem writeIdle_inProgress (s : State) : (writeIdle s).inProgress = s.inProgress := rfl
@[simp] theorem writeIdle_r1 (s : State) : (writeIdle s).r1 = s.r1 := rfl
@[simp] theorem writeIdle_r2 (s : State) : (writeIdle s).r2 = s.r2 := rfl
@[simp] theorem writeIdle_raw (s : State) : (writeIdle s).raw = s.raw := rfl
@[simp] theorem writeIdle_key (s : State) : (writeIdle s).key = s.key := rfl
@[simp] theorem writeIdle_pressed (s : State) : (writeIdle s).pressed = s.pressed := rfl
@[simp] theorem writeIdle_idx (s : State) : (writeIdle s).idx = s.idx := rfl
@[simp] theorem writeIdle_portOut (s : State) : (writeIdle s).portOut = idlePattern := rfl
@[simp] theorem writeIdle_trace (s : State) : (writeIdle s).trace = s.trace ++ [.write s.cfg.devAddr idlePattern] := rfl
@[simp] theorem writeIdle_sink (s : State) : (writeIdle s).sink = s.sink := rfl
@[simp] theorem writeIdle_script (s : State) : (writeIdle s).script = s.script := rfl
@[simp] theorem writeIdle_answers (s : State) : (writeIdle s).answers = s.answers := rfl
@[simp] theorem writeIdle_reads (s : State) : (writeIdle s).reads = s.reads := rfl
@[simp] theorem writeIdle_draws (s : State) : (writeIdle s).draws = s.draws := rfl
@[simp] theorem writeIdle_responses (s : State) : (writeIdle s).responses = s.responses := rfl

/-! ## writeScan -/

@[simp] theorem writeScan_cfg (s : State) : (writeScan s).cfg = s.cfg := rfl
@[simp] theorem writeScan_phase (s : State) : (writeScan s).phase = s.phase := rfl
@[simp] theorem writeScan_inProgress (s : State) : (writeScan s).inProgress = s.inProgress := rfl
@[simp] theorem writeScan_r1 (s : State) : (writeScan s).r1 = s.r1 := rfl
@[simp] theorem writeScan_r2 (s : State) : (writeScan s).r2 = s.r2 := rfl
@[simp] theorem writeScan_raw (s : State) : (writeScan s).raw = s.raw := rfl
@[simp] theorem writeScan_key (s : State) : (writeScan s).key = s.key := rfl
@[simp] theorem writeScan_pressed (s : State) : (writeScan s).pressed = s.pressed := rfl
@[simp] theorem writeScan_idx (s : State) : (writeScan s).idx = s.idx := rfl
@[simp] theorem writeScan_portOut (s : State) : (writeScan s).portOut = scanPattern := rfl
@[simp] theorem writeScan_trace (s : State) : (writeScan s).trace = s.trace ++ [.write s.cfg.devAddr scanPattern] := rfl
@[simp] theorem writeScan_sink (s : State) : (writeScan s).sink = s.sink := rfl
@[simp] theorem writeScan_script (s : State) : (writeScan s).script = s.script := rfl
@[simp] theorem writeScan_answers (s : State) : (writeScan s).answers = s.answers := rfl
@[simp] theorem writeScan_reads (s : State) : (writeScan s).reads = s.reads := rfl
@[simp] theorem writeScan_draws (s : State) : (writeScan s).draws = s.draws := rfl
@[simp] theorem writeScan_responses (s : State) : (writeScan s).responses = s.responses := rfl

/-! ## loadRaw -/

@[simp] theorem loadRaw_cfg (b : Byte) (s : State) : (loadRaw b s).cfg = s.cfg := rfl
@[simp] theorem loadRaw_phase (b : Byte) (s : State) : (loadRaw b s).phase = .kTest := rfl
@[simp] theorem loadRaw_inProgress (b : Byte) (s : State) : (loadRaw b s).inProgress = some .resolve := rfl
@[simp] theorem loadRaw_r1 (b : Byte) (s : State) : (loadRaw b s).r1 = s.r1 := rfl
@[simp] theorem loadRaw_r2 (b : Byte) (s : State) : (loadRaw b s).r2 = s.r2 := rfl
@[simp] theorem loadRaw_raw (b : Byte) (s : State) : (loadRaw b s).raw = b := rfl
@[simp] theorem loadRaw_key (b : Byte) (s : State) : (loadRaw b s).key = s.key := rfl
@[simp] theorem loadRaw_pressed (b : Byte) (s : State) : (loadRaw b s).pressed = s.pressed := rfl
@[simp] theorem loadRaw_idx (b : Byte) (s : State) : (loadRaw b s).idx = s.idx := rfl
@[simp] theorem loadRaw_portOut (b : Byte) (s : State) : (loadRaw b s).portOut = s.portOut := rfl
@[simp] theorem loadRaw_trace (b : Byte) (s : State) : (loadRaw b s).trace = s.trace := rfl
@[simp] theorem loadRaw_sink (b : Byte) (s : State) : (loadRaw b s).sink = s.sink := rfl
@[simp] theorem loadRaw_script (b : Byte) (s : State) : (loadRaw b s).script = s.script := rfl
@[simp] theorem loadRaw_answers (b : Byte) (s : State) : (loadRaw b s).answers = s.answers := rfl
@[simp] theorem loadRaw_reads (b : Byte) (s : State) : (loadRaw b s).reads = s.reads := rfl
@[simp] theorem loadRaw_draws (b : Byte) (s : State) : (loadRaw b s).draws = s.draws := rfl
@[simp] theorem loadRaw_responses (b : Byte) (s : State) : (loadRaw b s).responses = s.responses := rfl

/-! ## conclude -/

@[simp] theorem conclude_cfg (k : Byte) (s : State) : (conclude k s).cfg = s.cfg := rfl
@[simp] theorem conclude_phase (k : Byte) (s : State) : (conclude k s).phase = .idle := rfl
@[simp] theorem conclude_inProgress (k : Byte) (s : State) : (conclude k s).inProgress = none := rfl
@[simp] theorem conclude_r1 (k : Byte) (s : State) : (conclude k s).r1 = s.r1 := rfl
@[simp] theorem conclude_r2 (k : Byte) (s : State) : (conclude k s).r2 = s.r2 := rfl
@[simp] theorem conclude_raw (k : Byte) (s : State) : (conclude k s).raw = s.raw := rfl
@[simp] theorem conclude_key (k : Byte) (s : State) : (conclude k s).key = k := rfl
@[simp] theorem conclude_pressed (k : Byte) (s : State) : (conclude k s).pressed = presence s.raw := rfl
@[simp] theorem conclude_idx (k : Byte) (s : State) : (conclude k s).idx = s.idx := rfl
@[simp] theorem conclude_portOut (k : Byte) (s : State) : (conclude k s).portOut = s.portOut := rfl
@[simp] theorem conclude_trace (k : Byte) (s : State) : (conclude k s).trace = s.trace ++ [.resp (rspWord (presence s.raw) k)] := rfl
@[simp] theorem conclude_sink (k : Byte) (s : State) : (conclude k s).sink = s.sink := rfl
@[simp] theorem conclude_script (k : Byte) (s : State) : (conclude k s).script = s.script := rfl
@[simp] theorem conclude_answers (k : Byte) (s : State) : (conclude k s).answers = s.answers := rfl
@[simp] theorem conclude_reads (k : Byte) (s : State) : (conclude k s).reads = s.reads := rfl
@[simp] theorem conclude_draws (k : Byte) (s : State) : (conclude k s).draws = s.draws := rfl
@[simp] theorem conclude_responses (k : Byte) (s : State) : (conclude k s).responses = s.responses + 1 := rfl

/-! ## diag (its trace and sink: Sys2Proof/Laws/Ops.lean) -/

@[simp] theorem diag_cfg (e : DiagEvent) (s : State) : (diag e s).cfg = s.cfg := by
  unfold diag; split <;> rfl
@[simp] theorem diag_phase (e : DiagEvent) (s : State) : (diag e s).phase = s.phase := by
  unfold diag; split <;> rfl
@[simp] theorem diag_inProgress (e : DiagEvent) (s : State) : (diag e s).inProgress = s.inProgress := by
  unfold diag; split <;> rfl
@[simp] theorem diag_r1 (e : DiagEvent) (s : State) : (diag e s).r1 = s.r1 := by
  unfold diag; split <;> rfl
@[simp] theorem diag_r2 (e : DiagEvent) (s : State) : (diag e s).r2 = s.r2 := by
  unfold diag; split <;> rfl
@[simp] theorem diag_raw (e : DiagEvent) (s : State) : (diag e s).raw = s.raw := by
  unfold diag; split <;> rfl
@[simp] theorem diag_key (e : DiagEvent) (s : State) : (diag e s).key = s.key := by
  unfold diag; split <;> rfl
@[simp] theorem diag_pressed (e : DiagEvent) (s : State) : (diag e s).pressed = s.pressed := by
  unfold diag; split <;> rfl
@[simp] theorem diag_idx (e : DiagEvent) (s : State) : (diag e s).idx = s.idx := by
  unfold diag; split <;> rfl
@[simp] theorem diag_portOut (e : DiagEvent) (s : State) : (diag e s).portOut = s.portOut := by
  unfold diag; split <;> rfl
@[simp] theorem diag_script (e : DiagEvent) (s : State) : (diag e s).script = s.script := by
  unfold diag; split <;> rfl
@[simp] theorem diag_answers (e : DiagEvent) (s : State) : (diag e s).answers = s.answers := by
  unfold diag; split <;> rfl
@[simp] theorem diag_reads (e : DiagEvent) (s : State) : (diag e s).reads = s.reads := by
  unfold diag; split <;> rfl
@[simp] theorem diag_draws (e : DiagEvent) (s : State) : (diag e s).draws = s.draws := by
  unfold diag; split <;> rfl
@[simp] theorem diag_responses (e : DiagEvent) (s : State) : (diag e s).responses = s.responses := by
  unfold diag; split <;> rfl

/-! ## noDataNotice (its trace and sink: Sys2Proof/Laws/Ops.lean) -/

@[simp] theorem noDataNotice_cfg (k : WhichRead) (a : Option Byte) (s : State) : (noDataNotice k a s).cfg = s.cfg := by
  unfold noDataNotice; split <;> simp
@[simp] theorem noDataNotice_phase (k : WhichRead) (a : Option Byte) (s : State) : (noDataNotice k a s).phase = s.phase := by
  unfold noDataNotice; split <;> simp
@[simp] theorem noDataNotice_inProgress (k : WhichRead) (a : Option Byte) (s : State) : (noDataNotice k a s).inProgress = s.inProgress := by
  unfold noDataNotice; split <;> simp
@[simp] theorem noDataNotice_r1 (k : WhichRead) (a : Option Byte) (s : State) : (noDataNotice k a s).r1 = s.r1 := by
  unfold noDataNotice; split <;> simp
@[simp] theorem noDataNotice_r2 (k : WhichRead) (a : Option Byte) (s : State) : (noDataNotice k a s).r2 = s.r2 := by
  unfold noDataNotice; split <;> simp
@[simp] theorem noDataNotice_raw (k : WhichRead) (a : Option Byte) (s : State) : (noDataNotice k a s).raw = s.raw := by
  unfold noDataNotice; split <;> simp
@[simp] theorem noDataNotice_key (k : WhichRead) (a : Option Byte) (s : State) : (noDataNotice k a s).key = s.key := by
  unfold noDataNotice; split <;> simp
@[simp] theorem noDataNotice_pressed (k : WhichRead) (a : Option Byte) (s : State) : (noDataNotice k a s).pressed = s.pressed := by
  unfold noDataNotice; split <;> simp
@[simp] theorem noDataNotice_idx (k : WhichRead) (a : Option Byte) (s : State) : (noDataNotice k a s).idx = s.idx := by
  unfold noDataNotice; split <;> simp
@[simp] theorem noDataNotice_portOut (k : WhichRead) (a : Option Byte) (s : State) : (noDataNotice k a s).portOut = s.portOut := by
  unfold noDataNotice; split <;> simp
@[simp] theorem noDataNotice_script (k : WhichRead) (a : Option Byte) (s : State) : (noDataNotice k a s).script = s.script := by
  unfold noDataNotice; split <;> simp
@[simp] theorem noDataNotice_answers (k : WhichRead) (a : Option Byte) (s : State) : (noDataNotice k a s).answers = s.answers := by
  unfold noDataNotice; split <;> simp
@[simp] theorem noDataNotice_reads (k : WhichRead) (a : Option Byte) (s : State) : (noDataNotice k a s).reads = s.reads := by
  unfold noDataNotice; split <;> simp
@[simp] theorem noDataNotice_draws (k : WhichRead) (a : Option Byte) (s : State) : (noDataNotice k a s).draws = s.draws := by
  unfold noDataNotice; split <;> simp
@[simp] theorem noDataNotice_responses (k : WhichRead) (a : Option Byte) (s : State) : (noDataNotice k a s).responses = s.responses := by
  unfold noDataNotice; split <;> simp

end Sys2Proof.Machine
end

