-- ==== Sys2Proof/Laws/Ops.lean ====
section
/-! SUPPORT. What each shared operation can do, said once: diagnostics, the idle test, read answers, the search, the
sequences of SCAN and RESOLVE, and one inversion lemma for the step. -/

namespace Sys2Proof.Machine

/-! ## Diagnostics -/

/-- The events a diagnostic adds: itself with DEBUG at 1, nothing with DEBUG at 0. -/
@[simp] theorem diag_trace (e : DiagEvent) (s : State) :
    (diag e s).trace = s.trace ++ (if s.cfg.debug = true then [.diag e] else []) := by
  unfold diag; split <;> simp_all

@[simp] theorem diag_sink (e : DiagEvent) (s : State) :
    (diag e s).sink = if s.cfg.debug = true then s.sink.map (fun got => got ++ [diagRecord e]) else s.sink := by
  unfold diag; split <;> simp_all

@[simp] theorem noDataNotice_trace (k : WhichRead) (a : Option Byte) (s : State) :
    (noDataNotice k a s).trace =
      s.trace ++ noDataEvents k a s.cfg.debug := by
  cases a <;> cases h : s.cfg.debug <;> simp [noDataNotice, noDataEvents, h]

theorem noDataNotice_sink (k : WhichRead) (a : Option Byte) (s : State) :
    (noDataNotice k a s).sink = s.sink.map (fun got => got ++ noDataRecords k a s.cfg.debug) := by
  cases a <;> cases h : s.cfg.debug <;> simp [noDataNotice, noDataRecords, diagRecord, h]

/-- A diagnostic leaves an absent sink absent. -/
theorem diag_sink_none (e : DiagEvent) (s : State) (h : s.sink = none) : (diag e s).sink = none := by
  simp [h]

theorem noDataNotice_sink_none (k : WhichRead) (a : Option Byte) (s : State) (h : s.sink = none) :
    (noDataNotice k a s).sink = none := by
  simp [noDataNotice_sink, h]

/-! ## The idle test -/

theorem whenIdle_of_idle {s : State} (h : s.phase = .idle) (f : State → State) : whenIdle s f = .next (f s) := by
  simp [whenIdle, h]

theorem whenIdle_of_busy {s : State} (h : s.phase ≠ .idle) (f : State → State) :
    whenIdle s f = .refused .commandWhileBusy := by
  unfold whenIdle; split <;> simp_all

/-- A host command that answers a next state was taken in IDLE, and the answer is what the operation makes of it. -/
theorem whenIdle_next {s t : State} {f : State → State} (h : whenIdle s f = .next t) : s.phase = .idle ∧ f s = t := by
  unfold whenIdle at h; split at h <;> simp_all

/-- What an instruction that answers a next state did. -/
theorem exec_cases {i : Instr} {s t : State} (h : exec i s = .next t) :
    (i = .init ∧ s.phase = .idle ∧ t = initWrite (begin .init .iWrite s)) ∨
    (i = .poll ∧ s.phase = .idle ∧ t = resolveSequence (scanSequence (begin .poll .sSettle s))) ∨
    (i = .scan ∧ s.phase = .idle ∧ t = scanSequence (begin .scan .sSettle s)) ∨
    (∃ raw, i = .resolve raw ∧ s.phase = .idle ∧ t = resolveSequence (loadRaw raw s)) ∨
    (i = .wrIdle ∧ t = writeIdle s) ∨ (i = .wrScan ∧ t = writeScan s) := by
  cases i with
  | init => simp only [exec, execInit] at h; obtain ⟨hp, rfl⟩ := whenIdle_next h; simp [hp]
  | poll => simp only [exec, execPoll] at h; obtain ⟨hp, rfl⟩ := whenIdle_next h; simp [hp]
  | scan => simp only [exec, execScan] at h; obtain ⟨hp, rfl⟩ := whenIdle_next h; simp [hp]
  | resolve raw => simp only [exec, execResolve] at h; obtain ⟨hp, rfl⟩ := whenIdle_next h; simp [hp]
  | wrIdle => simp [exec, execWrIdle] at h; simp [h]
  | wrScan => simp [exec, execWrScan] at h; simp [h]

/-! ## Read answers -/

theorem nextAnswer_eq_upcoming (s : State) : nextAnswer s = upcoming s 0 := by
  cases h : s.answers <;> simp [nextAnswer, upcoming, h]

/-- After one read of `s`, the next answer is the one that came second for `s`. -/
theorem nextAnswer_of_tail {s t : State} (ha : t.answers = s.answers.tail) (hr : t.reads = s.reads + 1) :
    nextAnswer t = upcoming s 1 := by
  cases h : s.answers with
  | nil => simp [nextAnswer, upcoming, ha, hr, h]
  | cons a as => cases as <;> simp [nextAnswer, upcoming, ha, hr, h]

theorem rd_eq_getD (a : Option Byte) (d : Byte) : rd a d = a.getD d := by cases a <;> rfl

/-! ## The search -/

/-- The search stops within the keymap or at its end. -/
theorem searchStop_le (keymap : List KeymapEntry) (raw : Byte) : searchStop keymap raw ≤ keymap.length := by
  induction keymap with
  | nil => simp [searchStop]
  | cons e es ih => simp only [searchStop]; split <;> simp_all

/-- No entry the search passed holds the code. -/
theorem searchStop_passed {keymap : List KeymapEntry} {raw : Byte} {j : Nat} {e : KeymapEntry}
    (h : j < searchStop keymap raw) (he : keymap[j]? = some e) : e.code ≠ raw := by
  induction keymap generalizing j with
  | nil => simp at he
  | cons e' es ih =>
    simp only [searchStop] at h
    split at h
    · omega
    · cases j with
      | zero => simp_all
      | succ j => exact ih (j := j) (by omega) (by simpa using he)

/-- The entry the search stops at holds the code. -/
theorem searchStop_match {keymap : List KeymapEntry} {raw : Byte} {e : KeymapEntry}
    (he : keymap[searchStop keymap raw]? = some e) : e.code = raw := by
  induction keymap with
  | nil => simp at he
  | cons e' es ih =>
    simp only [searchStop] at he
    split at he
    · simp_all
    · exact ih (by simpa using he)

/-- A position that holds the code and before which none does is where the search stops. -/
theorem searchStop_eq {keymap : List KeymapEntry} {raw : Byte} {i : Nat} {e : KeymapEntry}
    (he : keymap[i]? = some e) (hc : e.code = raw)
    (hb : ∀ j e', j < i → keymap[j]? = some e' → e'.code ≠ raw) : searchStop keymap raw = i := by
  rcases Nat.lt_trichotomy (searchStop keymap raw) i with h | h | h
  · have hlt : searchStop keymap raw < keymap.length := by
      have := (List.getElem?_eq_some_iff.mp he).1; omega
    exact absurd (searchStop_match (List.getElem?_eq_getElem hlt)) (hb _ _ h (List.getElem?_eq_getElem hlt))
  · exact h
  · exact absurd hc (searchStop_passed h he)

/-- With the code in no entry, the search runs to the end. -/
theorem searchStop_absent {keymap : List KeymapEntry} {raw : Byte} (h : ∀ e ∈ keymap, e.code ≠ raw) :
    searchStop keymap raw = keymap.length := by
  induction keymap with
  | nil => rfl
  | cons e es ih => simp_all [searchStop]

/-- The key found is that of the first entry with the code, or the unknown-key character. -/
theorem keyAt_searchStop (keymap : List KeymapEntry) (raw : Byte) :
    keyAt keymap (searchStop keymap raw) =
      match keymap.find? (fun e => e.code == raw) with
      | some e => e.key
      | none => unknownKey := by
  induction keymap with
  | nil => rfl
  | cons e es ih =>
    by_cases h : e.code = raw
    · simp [searchStop, h, keyAt]
    · simp only [searchStop, h, if_false, List.find?_cons, beq_eq_false_iff_ne.mpr h]
      rw [← ih]; simp [keyAt]

/-! ## Presence -/

@[simp] theorem presence_eq_false (raw : Byte) : presence raw = false ↔ raw = noKey := by simp [presence]

@[simp] theorem presence_eq_true (raw : Byte) : presence raw = true ↔ raw ≠ noKey := by simp [presence]

/-! ## Response words -/

@[simp] theorem rspPressed_rspWord (p : Bool) (v : Byte) : rspPressed (rspWord p v) = p := by
  cases p <;> simp [rspPressed, rspWord] <;> rw [← BitVec.getLsbD_eq_getElem, BitVec.getLsbD_append] <;> simp

@[simp] theorem rspVal_rspWord (p : Bool) (v : Byte) : rspVal (rspWord p v) = v := by
  apply BitVec.eq_of_getLsbD_eq
  intro k hk
  rw [rspVal, BitVec.getLsbD_extractLsb', rspWord, BitVec.getLsbD_append]
  simp [hk]

/-! ## The sequence of SCAN -/

/-- The first answer of a scan. -/
theorem nextAnswer_settle (s : State) : nextAnswer (settle s) = upcoming s 0 := by
  rw [nextAnswer_eq_upcoming]; rfl

/-- The second answer of a scan. -/
theorem nextAnswer_drive (s : State) : nextAnswer (drive (readFirst (settle s))) = upcoming s 1 := by
  apply nextAnswer_of_tail <;> simp [drive, readFirst, settle]

/-- The state in which S_RESTORE is entered. -/
theorem beforeRestore_eq (s : State) :
    combine (readSecond (drive (readFirst (settle s)))) = { s with
      phase := .sRestore
      r1 := firstRead s
      r2 := secondRead s
      raw := firstRead s ^^^ secondRead s
      portOut := scanPattern
      trace := s.trace
        ++ [.delay s.cfg.tSettle, .read s.cfg.devAddr 1 (upcoming s 0)]
        ++ noDataEvents .first (upcoming s 0) s.cfg.debug
        ++ [.write s.cfg.devAddr scanPattern, .read s.cfg.devAddr 1 (upcoming s 1)]
        ++ noDataEvents .second (upcoming s 1) s.cfg.debug
      sink := s.sink.map (fun got => got
        ++ noDataRecords .first (upcoming s 0) s.cfg.debug ++ noDataRecords .second (upcoming s 1) s.cfg.debug)
      answers := s.answers.drop 2
      reads := s.reads + 2
      draws := s.draws + 2 } := by
  ext1 <;> simp [combine, readSecond, nextAnswer_drive, noDataNotice_sink, xorReads, rd_eq_getD, drawn, firstRead,
    secondRead]
  all_goals simp [drive, readFirst, nextAnswer_settle, noDataNotice_sink, rd_eq_getD, drawn]
  all_goals simp [settle, ← List.drop_one, List.drop_drop]
  cases s.sink <;> simp

/-- The scan of SCAN, from a state in which SCAN was taken. -/
theorem scanSequence_of_scan (s : State) : scanSequence (begin .scan .sSettle s) = { s with
      phase := .idle
      inProgress := none
      r1 := firstRead s
      r2 := secondRead s
      raw := firstRead s ^^^ secondRead s
      portOut := idlePattern
      trace := s.trace
        ++ [.delay s.cfg.tSettle, .read s.cfg.devAddr 1 (upcoming s 0)]
        ++ noDataEvents .first (upcoming s 0) s.cfg.debug
        ++ [.write s.cfg.devAddr scanPattern, .read s.cfg.devAddr 1 (upcoming s 1)]
        ++ noDataEvents .second (upcoming s 1) s.cfg.debug
        ++ [.write s.cfg.devAddr idlePattern,
          .resp (rspWord (rspPressed (filler s)) (firstRead s ^^^ secondRead s))]
      sink := s.sink.map (fun got => got
        ++ noDataRecords .first (upcoming s 0) s.cfg.debug ++ noDataRecords .second (upcoming s 1) s.cfg.debug)
      answers := s.answers.drop 2
      reads := s.reads + 2
      draws := s.draws + 2
      responses := s.responses + 1 } := by
  rw [scanSequence, beforeRestore_eq]
  simp [restore, finish, respond, emit, writeIdle, portWrite, begin, scanResponse, filler, firstRead, secondRead, upcoming]

/-- The scan of POLL: no response, and K_TEST comes next. -/
theorem scanSequence_of_poll (s : State) : scanSequence (begin .poll .sSettle s) = { s with
      phase := .kTest
      inProgress := some .poll
      r1 := firstRead s
      r2 := secondRead s
      raw := firstRead s ^^^ secondRead s
      portOut := idlePattern
      trace := s.trace
        ++ [.delay s.cfg.tSettle, .read s.cfg.devAddr 1 (upcoming s 0)]
        ++ noDataEvents .first (upcoming s 0) s.cfg.debug
        ++ [.write s.cfg.devAddr scanPattern, .read s.cfg.devAddr 1 (upcoming s 1)]
        ++ noDataEvents .second (upcoming s 1) s.cfg.debug
        ++ [.write s.cfg.devAddr idlePattern]
      sink := s.sink.map (fun got => got
        ++ noDataRecords .first (upcoming s 0) s.cfg.debug ++ noDataRecords .second (upcoming s 1) s.cfg.debug)
      answers := s.answers.drop 2
      reads := s.reads + 2
      draws := s.draws + 2 } := by
  rw [scanSequence, beforeRestore_eq]
  simp [restore, enter, emit, writeIdle, portWrite, begin, firstRead, secondRead, upcoming]

/-! ## The sequence of RESOLVE -/

/-- With 0xFF in RAW. -/
theorem resolveSequence_of_noKey {s : State} (h : s.raw = noKey) : resolveSequence s = { s with
      phase := .idle
      inProgress := none
      key := Config.draw8 s.draws
      pressed := false
      trace := s.trace ++ [.resp (rspWord false (Config.draw8 s.draws))]
      draws := s.draws + 1
      responses := s.responses + 1 } := by
  ext1 <;> simp [resolveSequence, h, resolveNoKey, drawn, (presence_eq_false noKey).mpr rfl]

/-- With key activity in RAW. -/
theorem resolveSequence_of_activity {s : State} (h : s.raw ≠ noKey) : resolveSequence s = { s with
      phase := .idle
      inProgress := none
      idx := searchStop s.cfg.keymap s.raw
      key := keyAt s.cfg.keymap (searchStop s.cfg.keymap s.raw)
      pressed := true
      trace := s.trace ++ (if s.cfg.debug = true then [.diag (.rawScan s.raw)] else [])
        ++ [.resp (rspWord true (keyAt s.cfg.keymap (searchStop s.cfg.keymap s.raw)))]
      sink := if s.cfg.debug = true then s.sink.map (fun got => got ++ [diagRecord (.rawScan s.raw)]) else s.sink
      responses := s.responses + 1 } := by
  have hp : presence s.raw = true := by simpa using h
  ext1 <;> simp [resolveSequence, h, searchAll, startSearch, hp]

/-- The events of a resolve, whatever is in RAW. -/
theorem resolveSequence_trace (s : State) : (resolveSequence s).trace = s.trace ++ rawScanEvents s.raw s.cfg.debug
    ++ [.resp (rspWord (resolveSequence s).pressed (resolveSequence s).key)] := by
  by_cases h : s.raw = noKey
  · rw [resolveSequence_of_noKey h]; cases hd : s.cfg.debug <;> simp_all [rawScanEvents, noKey]
  · rw [resolveSequence_of_activity h]; cases hd : s.cfg.debug <;> simp_all [rawScanEvents, noKey]

/-- What a resolve hands to the sink, whatever is in RAW. -/
theorem resolveSequence_sink (s : State) :
    (resolveSequence s).sink = s.sink.map (fun got => got ++ rawScanRecords s.raw s.cfg.debug) := by
  by_cases h : s.raw = noKey
  · rw [resolveSequence_of_noKey h]; cases hd : s.cfg.debug <;> simp_all [rawScanRecords, noKey]
  · rw [resolveSequence_of_activity h]; cases hd : s.cfg.debug <;> simp_all [rawScanRecords, diagRecord, noKey]

/-- The command RESOLVE 0xFF. -/
theorem resolve_noKey_eq (s : State) : resolveSequence (loadRaw noKey s) = { s with
      phase := .idle
      inProgress := none
      raw := noKey
      key := Config.draw8 s.draws
      pressed := false
      trace := s.trace ++ [.resp (rspWord false (Config.draw8 s.draws))]
      draws := s.draws + 1
      responses := s.responses + 1 } := by
  rw [resolveSequence_of_noKey rfl]; rfl

/-- The command RESOLVE of key activity. -/
theorem resolve_activity_eq {b : Byte} (h : b ≠ noKey) (s : State) : resolveSequence (loadRaw b s) = { s with
      phase := .idle
      inProgress := none
      raw := b
      idx := searchStop s.cfg.keymap b
      key := keyAt s.cfg.keymap (searchStop s.cfg.keymap b)
      pressed := true
      trace := s.trace ++ (if s.cfg.debug = true then [.diag (.rawScan b)] else [])
        ++ [.resp (rspWord true (keyAt s.cfg.keymap (searchStop s.cfg.keymap b)))]
      sink := if s.cfg.debug = true then s.sink.map (fun got => got ++ [diagRecord (.rawScan b)]) else s.sink
      responses := s.responses + 1 } := by
  rw [resolveSequence_of_activity (s := loadRaw b s) h]; rfl

/-! ## Host commands in IDLE -/

theorem exec_init_of_idle {s : State} (h : s.phase = .idle) :
    exec .init s = .next (initWrite (begin .init .iWrite s)) := by
  rw [exec, execInit, whenIdle_of_idle h]

theorem exec_poll_of_idle {s : State} (h : s.phase = .idle) :
    exec .poll s = .next (resolveSequence (scanSequence (begin .poll .sSettle s))) := by
  rw [exec, execPoll, whenIdle_of_idle h]

theorem exec_scan_of_idle {s : State} (h : s.phase = .idle) :
    exec .scan s = .next (scanSequence (begin .scan .sSettle s)) := by
  rw [exec, execScan, whenIdle_of_idle h]

theorem exec_resolve_of_idle {s : State} (raw : Byte) (h : s.phase = .idle) :
    exec (.resolve raw) s = .next (resolveSequence (loadRaw raw s)) := by
  rw [exec, execResolve, whenIdle_of_idle h]

/-- Every host command is refused outside IDLE. -/
theorem exec_of_busy {i : Instr} {s : State} (hf : i.format = .cmd) (h : s.phase ≠ .idle) :
    exec i s = .refused .commandWhileBusy := by
  cases i with
  | init => rw [exec, execInit, whenIdle_of_busy h]
  | poll => rw [exec, execPoll, whenIdle_of_busy h]
  | scan => rw [exec, execScan, whenIdle_of_busy h]
  | resolve raw => rw [exec, execResolve, whenIdle_of_busy h]
  | wrIdle => cases hf
  | wrScan => cases hf

/-- Every host command answers a next state in IDLE. -/
theorem exec_of_idle {i : Instr} {s : State} (hf : i.format = .cmd) (h : s.phase = .idle) :
    ∃ t, exec i s = .next t := by
  cases i with
  | init => exact ⟨_, exec_init_of_idle h⟩
  | poll => exact ⟨_, exec_poll_of_idle h⟩
  | scan => exact ⟨_, exec_scan_of_idle h⟩
  | resolve raw => exact ⟨_, exec_resolve_of_idle raw h⟩
  | wrIdle => cases hf
  | wrScan => cases hf

/-! ## The step -/

/-- Every command word decodes to a host command (spec/30_encoding.md R85). -/
theorem decodeCmd_format (w : CmdWord) : (decodeCmd w).format = .cmd := by
  unfold decodeCmd; split_ifs <;> rfl

/-- All a step can do: wait, run the issued command, or make one transition. -/
theorem step_cases {s t : State} (h : step s = .next t) :
    (s.phase = .idle ∧ s.script = [] ∧ t = s) ∨
    (∃ w rest, s.phase = .idle ∧ s.script = w :: rest ∧ exec (decodeCmd w) { s with script := rest } = .next t) ∨
    (s.phase ≠ .idle ∧ t = advance s) := by
  cases hp : s.phase with
  | idle =>
    cases hs : s.script with
    | nil => simp_all [step, fetch]
    | cons w rest => simp_all [step, fetch]
  | _ => simp_all [step]

theorem step_of_busy {s : State} (h : s.phase ≠ .idle) : step s = .next (advance s) := by
  unfold step; split <;> simp_all

end Sys2Proof.Machine
end

