-- ==== Sys2Proof/Laws/PerInstr.lean ====
section
/-! SUPPORT. Statements made per instruction, as syntax. `FormatOf`: an instruction is encoded in the format its row of
spec/opcode_table.json names. -/

namespace Sys2Proof.Laws.FormatOf

/-- The encoding of an instruction is a command word exactly if its row's format is CMD, and it has two bytes then and one
otherwise (spec/30_encoding.md R69; log 11). -/
def Statement (i : Instr) : Prop :=
  ((∃ w, encode i = .cmd w) ↔ i.format = .cmd) ∧
  (encodeBytes i).length = (match i.format with | .cmd => 2 | .pat => 1)

theorem init : Statement .init := by simp [Statement, encode, encodeBytes, Code.bytes, Instr.format]

theorem poll : Statement .poll := by simp [Statement, encode, encodeBytes, Code.bytes, Instr.format]

theorem scan : Statement .scan := by simp [Statement, encode, encodeBytes, Code.bytes, Instr.format]

theorem resolve (raw : Byte) : Statement (.resolve raw) := by
  simp [Statement, encode, encodeBytes, Code.bytes, Instr.format]

theorem wrIdle : Statement .wrIdle := by simp [Statement, encode, encodeBytes, Code.bytes, Instr.format]

theorem wrScan : Statement .wrScan := by simp [Statement, encode, encodeBytes, Code.bytes, Instr.format]

end Sys2Proof.Laws.FormatOf
end

