-- ==== Sys2Proof/Laws/Safety.lean ====
section
/-! SUPPORT. How the views of Safety.lean behave: the latest write of a longer trace, adding events that are in order, and the
registers of a state with another sink, without diagnostics, or with other registers. -/

namespace Sys2Proof.Machine

/-- The latest write of a longer trace is in the new part if that has one. -/
theorem lastWritten_append (a b : List Event) : lastWritten (a ++ b) = (lastWritten b).or (lastWritten a) := by
  unfold lastWritten
  rw [List.foldl_append]
  generalize List.foldl _ none a = x
  induction b using List.reverseRecOn with
  | nil => simp
  | append_singleton b e ih => rw [List.foldl_append, List.foldl_append, ih]; cases e <;> simp

/-- Adding events in order, with PORT_OUT following the writes among them, keeps the trace in order. -/
theorem TraceInOrder.extend {s t : State} (events : List Event) (h : TraceInOrder s) (hc : t.cfg = s.cfg)
    (ht : t.trace = s.trace ++ events) (he : ∀ e ∈ events, eventInOrder s.cfg e)
    (hp : t.portOut = (lastWritten events).getD s.portOut) : TraceInOrder t := by
  refine ⟨fun e hm => ?_, fun v hv => ?_⟩
  · rw [ht, List.mem_append] at hm; rw [hc]; exact hm.elim (h.1 e) (he e)
  · rw [ht, lastWritten_append] at hv; rw [hp]
    cases hx : lastWritten events with
    | none => rw [hx] at hv; simpa using h.2 v (by simpa using hv)
    | some x => rw [hx] at hv; simpa using hv

@[simp] theorem withSink_cfg (k : Option (List DiagRecord)) (s : State) : (withSink k s).cfg = s.cfg := rfl
@[simp] theorem withSink_phase (k : Option (List DiagRecord)) (s : State) : (withSink k s).phase = s.phase := rfl
@[simp] theorem withSink_inProgress (k : Option (List DiagRecord)) (s : State) :
    (withSink k s).inProgress = s.inProgress := rfl
@[simp] theorem withSink_r1 (k : Option (List DiagRecord)) (s : State) : (withSink k s).r1 = s.r1 := rfl
@[simp] theorem withSink_r2 (k : Option (List DiagRecord)) (s : State) : (withSink k s).r2 = s.r2 := rfl
@[simp] theorem withSink_raw (k : Option (List DiagRecord)) (s : State) : (withSink k s).raw = s.raw := rfl
@[simp] theorem withSink_key (k : Option (List DiagRecord)) (s : State) : (withSink k s).key = s.key := rfl
@[simp] theorem withSink_pressed (k : Option (List DiagRecord)) (s : State) : (withSink k s).pressed = s.pressed := rfl
@[simp] theorem withSink_idx (k : Option (List DiagRecord)) (s : State) : (withSink k s).idx = s.idx := rfl
@[simp] theorem withSink_portOut (k : Option (List DiagRecord)) (s : State) : (withSink k s).portOut = s.portOut := rfl
@[simp] theorem withSink_trace (k : Option (List DiagRecord)) (s : State) : (withSink k s).trace = s.trace := rfl
@[simp] theorem withSink_sink (k : Option (List DiagRecord)) (s : State) : (withSink k s).sink = k := rfl
@[simp] theorem withSink_script (k : Option (List DiagRecord)) (s : State) : (withSink k s).script = s.script := rfl
@[simp] theorem withSink_answers (k : Option (List DiagRecord)) (s : State) : (withSink k s).answers = s.answers := rfl
@[simp] theorem withSink_reads (k : Option (List DiagRecord)) (s : State) : (withSink k s).reads = s.reads := rfl
@[simp] theorem withSink_draws (k : Option (List DiagRecord)) (s : State) : (withSink k s).draws = s.draws := rfl
@[simp] theorem withSink_responses (k : Option (List DiagRecord)) (s : State) :
    (withSink k s).responses = s.responses := rfl

@[simp] theorem quiet_devAddr (s : State) : (quiet s).cfg.devAddr = s.cfg.devAddr := rfl
@[simp] theorem quiet_debug (s : State) : (quiet s).cfg.debug = false := rfl
@[simp] theorem quiet_keymap (s : State) : (quiet s).cfg.keymap = s.cfg.keymap := rfl
@[simp] theorem quiet_tSettle (s : State) : (quiet s).cfg.tSettle = s.cfg.tSettle := rfl
@[simp] theorem quiet_phase (s : State) : (quiet s).phase = s.phase := rfl
@[simp] theorem quiet_trace (s : State) : (quiet s).trace = s.trace.filter (fun e => !isDiag e) := rfl
@[simp] theorem quiet_sink (s : State) : (quiet s).sink = none := rfl
@[simp] theorem quiet_script (s : State) : (quiet s).script = s.script := rfl

end Sys2Proof.Machine
end

