-- ==== Sys2Proof/Laws/Sequencer.lean ====
section
/-! SUPPORT. What single transitions of spec/10_state.md R32 do, and how many of them make up a scan, a search, a resolve. -/

namespace Sys2Proof.Machine

/-! ## One transition -/

theorem advance_iWrite {s : State} (h : s.phase = .iWrite) : advance s = initWrite s := by simp [advance, h]

theorem advance_sSettle {s : State} (h : s.phase = .sSettle) : advance s = settle s := by simp [advance, h]

theorem advance_sRead1 {s : State} (h : s.phase = .sRead1) : advance s = readFirst s := by simp [advance, h]

theorem advance_sDrive {s : State} (h : s.phase = .sDrive) : advance s = drive s := by simp [advance, h]

theorem advance_sRead2 {s : State} (h : s.phase = .sRead2) : advance s = readSecond s := by simp [advance, h]

theorem advance_sXor {s : State} (h : s.phase = .sXor) : advance s = combine s := by simp [advance, h]

theorem advance_sRestore {s : State} (h : s.phase = .sRestore) : advance s = restore s := by simp [advance, h]

theorem advance_kTest {s : State} (h : s.phase = .kTest) : advance s = testNoKey s := by simp [advance, h]

theorem advance_kSearch {s : State} (h : s.phase = .kSearch) : advance s = searchOne s := by simp [advance, h]

/-- All that S_RESTORE can do. -/
theorem restore_cases (s : State) :
    (s.inProgress = some .poll ∧ restore s = enter .kTest (writeIdle s)) ∨
    (s.inProgress ≠ some .poll ∧ restore s = finish (scanResponse s) (writeIdle s)) := by
  unfold restore; split <;> simp_all

/-- All that one position of the search can do. -/
theorem searchOne_cases (s : State) :
    (∃ e, s.cfg.keymap[s.idx]? = some e ∧ e.code = s.raw ∧ searchOne s = conclude e.key s) ∨
    (∃ e, s.cfg.keymap[s.idx]? = some e ∧ e.code ≠ s.raw ∧ searchOne s = setIdx (s.idx + 1) s) ∨
    (s.cfg.keymap[s.idx]? = none ∧ searchOne s = conclude unknownKey s) := by
  unfold searchOne keymapAt
  cases s.cfg.keymap[s.idx]? with
  | none => simp
  | some e => by_cases h : e.code = s.raw <;> simp [h]

/-- All that K_TEST can do. -/
theorem testNoKey_cases (s : State) :
    (s.raw = noKey ∧ testNoKey s = resolveNoKey s) ∨ (s.raw ≠ noKey ∧ testNoKey s = startSearch s) := by
  unfold testNoKey; split <;> simp_all

/-! ## Several transitions -/

theorem advanceBy_add (a b : Nat) (s : State) : advanceBy (a + b) s = advanceBy b (advanceBy a s) := by
  induction a generalizing s with
  | zero => simp [advanceBy]
  | succ a ih => rw [Nat.succ_add]; simp [advanceBy, ih]

/-- The six transitions of a scan. -/
theorem advanceBy_scan {s : State} (hp : s.phase = .sSettle) :
    advanceBy 6 s = scanSequence s ∧ ∀ j, j < 6 → (advanceBy j s).phase ≠ .idle := by
  have h1 : advance s = settle s := advance_sSettle hp
  have h2 : advance (settle s) = readFirst (settle s) := rfl
  have h3 : advance (readFirst (settle s)) = drive (readFirst (settle s)) := rfl
  have h4 : advance (drive (readFirst (settle s))) = readSecond (drive (readFirst (settle s))) := rfl
  have h5 : advance (readSecond (drive (readFirst (settle s)))) = combine (readSecond (drive (readFirst (settle s)))) := rfl
  have h6 : advance (combine (readSecond (drive (readFirst (settle s))))) = scanSequence s := rfl
  refine ⟨by simp only [advanceBy, h1, h2, h3, h4, h5, h6], fun j hj => ?_⟩
  interval_cases j <;> simp only [advanceBy, h1, h2, h3, h4, h5, hp]
  · simp
  · simp [settle]
  · simp [readFirst]
  · simp [drive]
  · simp [readSecond]
  · simp [combine]

/-- A search that has passed no match runs to its end in at most N + 1 transitions. -/
theorem advanceBy_search (s : State) (hp : s.phase = .kSearch) (hi : s.idx ≤ searchStop s.cfg.keymap s.raw) :
    ∃ k, k + s.idx ≤ s.cfg.n + 1 ∧ advanceBy k s = searchAll s ∧
      ∀ j, j < k → (advanceBy j s).phase = .kSearch := by
  have hle := searchStop_le s.cfg.keymap s.raw
  induction hd : searchStop s.cfg.keymap s.raw - s.idx generalizing s with
  | zero =>
    have he : s.idx = searchStop s.cfg.keymap s.raw := by omega
    refine ⟨1, by show 1 + s.idx ≤ s.cfg.keymap.length + 1; omega, ?_, fun j hj => ?_⟩
    · rw [advanceBy, advanceBy, advance_kSearch hp, searchAll, ← he]
      rcases searchOne_cases s with ⟨e, hk, hc, hs⟩ | ⟨e, hk, hc, _⟩ | ⟨hk, hs⟩
      · rw [hs, keyAt, hk]; rfl
      · exact absurd (searchStop_match (he ▸ hk)) hc
      · rw [hs, keyAt, hk]; rfl
    · obtain rfl : j = 0 := by omega
      exact hp
  | succ d ih =>
    have hlt : s.idx < s.cfg.keymap.length := by omega
    have hget := List.getElem?_eq_getElem hlt
    have hstep : advance s = setIdx (s.idx + 1) s := by
      rw [advance_kSearch hp]
      rcases searchOne_cases s with ⟨e, hk, hc, _⟩ | ⟨e, _, _, hs⟩ | ⟨hk, _⟩
      · exact absurd hc (searchStop_passed (by omega) hk)
      · exact hs
      · rw [hget] at hk; cases hk
    obtain ⟨k, h1, h2, h3⟩ := ih (setIdx (s.idx + 1) s) hp (by simp; omega) hle (by simp; omega)
    refine ⟨k + 1, by simp at h1 ⊢; omega, by rw [advanceBy, hstep, h2]; rfl, fun j hj => ?_⟩
    cases j with
    | zero => exact hp
    | succ j => rw [advanceBy, hstep]; exact h3 j (by omega)

/-- A resolve runs to its end in at most N + 2 transitions. -/
theorem advanceBy_resolve {s : State} (hp : s.phase = .kTest) :
    ∃ k, k ≤ s.cfg.n + 2 ∧ advanceBy k s = resolveSequence s ∧ ∀ j, j < k → (advanceBy j s).phase ≠ .idle := by
  rcases testNoKey_cases s with ⟨hr, ht⟩ | ⟨hr, ht⟩
  · refine ⟨1, by omega, by simp [advanceBy, advance_kTest hp, ht, resolveSequence, hr], fun j hj => ?_⟩
    obtain rfl : j = 0 := by omega
    simp [advanceBy, hp]
  · obtain ⟨k, h1, h2, h3⟩ := advanceBy_search (startSearch s) rfl (Nat.zero_le _)
    have e : advance s = startSearch s := (advance_kTest hp).trans ht
    refine ⟨k + 1, by simp [startSearch] at h1; omega, by rw [advanceBy, e, h2]; simp [resolveSequence, hr], fun j hj => ?_⟩
    cases j with
    | zero => simp [advanceBy, hp]
    | succ j => rw [advanceBy, e, h3 j (by omega)]; simp

end Sys2Proof.Machine
end

