-- ==== Sys2Proof/Tests/Slice0.lean ====
section
/-! SUPPORT. Tests with expected values from spec/95_test_vectors.md (V1 to V6, S6) and the encodings of
spec/30_encoding.md, and for each statement with hypotheses a witness that meets them. -/

namespace Sys2Proof.Tests

open Sys2Proof Sys2Proof.Machine

/-! ## Well-formedness: what each check refuses -/

theorem test_cmd_word_fits : isCmdWord 1023 = true := by decide

theorem test_cmd_word_too_wide_refused : isCmdWord 1024 = false := by decide

theorem test_pat_word_fits : isPatWord 255 = true := by decide

theorem test_pat_word_too_wide_refused : isPatWord 256 = false := by decide

theorem test_keymap_duplicate_refused : keymapUnique [⟨5#8, 0x58#8⟩, ⟨5#8, 0x59#8⟩] = false := by decide

theorem test_keymap_missing_code_refused : keymapCovers [⟨1#8, 0x41#8⟩] [1#8, 2#8] = false := by decide

/-! ## Decoding, words written out from R82 and V6 -/

theorem test_decode_init : decode (.cmd 0b0011111111#10) = .ok .init := by decide

theorem test_decode_poll : decode (.cmd 0b0110100101#10) = .ok .poll := by decide

theorem test_decode_scan : decode (.cmd 0b1011111111#10) = .ok .scan := by decide

theorem test_decode_resolve : decode (.cmd 0b1101000010#10) = .ok (.resolve 0x42#8) := by decide

theorem test_decode_resolve_ff : decode (.cmd 0b1111111111#10) = .ok (.resolve 0xFF#8) := by decide

theorem test_decode_wr_idle : decode (.pat 0b00001111#8) = .ok .wrIdle := by decide

theorem test_decode_wr_scan : decode (.pat 0b11110000#8) = .ok .wrScan := by decide

theorem test_decode_other_pattern_refused : decode (.pat 0xFF#8) = .error (.notADrivePattern 0xFF#8) := by decide

theorem test_decode_bytes_of_poll : decodeBytes [0xA5#8, 0x01#8] = .ok .poll := by decide

theorem test_decode_bytes_too_wide_refused : decodeBytes [0x00#8, 0x04#8] = .error (.notACommandWord 1024) := by decide

theorem test_decode_no_bytes_refused : decodeBytes [] = .error (.badLength 0) := by decide

theorem test_table_words : decodeTableWord 16 0x300 = some (.resolve 0#8) ∧ decodeTableWord 8 0x0F = some .wrIdle ∧
    decodeTableWord 8 0xF1 = none ∧ decodeTableWord 16 0x400 = none := by decide

/-- The KME words of P1. -/
theorem test_keymap_entry_word : packEntry ⟨2#8, 0x42#8⟩ = 0x0242#16 ∧ unpackEntry 0x0443#16 = ⟨4#8, 0x43#8⟩ := by decide

/-! ## Script lines (R86) -/

theorem test_assemble_script :
    assemble ["INIT        ; 0x000".toList, "; a comment".toList, "RESOLVE 0b00000010".toList, "RESOLVE 255".toList] =
      some [0x000#10, 0x302#10, 0x3FF#10] := by decide

theorem test_assemble_unknown_refused : assemble ["PRESS".toList] = none := by decide

theorem test_configuration_lines :
    (configureLine default "DEV_ADDR = 0x27".toList).map (·.devAddr) = some 0x27#7 ∧
    (configureLine default "DEV_ADDR = 128".toList) = none ∧
    (configureLine default "DEBUG = 1".toList).map (·.debug) = some true ∧
    (configureLine default ("KEYMAP = ".toList ++ [Char.ofNat 123] ++ "(1,'A'), (0xEE,';')".toList
      ++ [Char.ofNat 125] ++ " ; two".toList)).map (·.keymap) = some [⟨1#8, 0x41#8⟩, ⟨0xEE#8, 0x3B#8⟩] := by decide

/-! ## One step on a small state -/

/-- The keymap K3 of spec/95_test_vectors.md. -/
def k3 : List KeymapEntry := [⟨1#8, 0x41#8⟩, ⟨2#8, 0x42#8⟩, ⟨4#8, 0x43#8⟩]

/-- The keymap of V4.12. -/
def v4 : List KeymapEntry := [⟨5#8, 0x58#8⟩, ⟨5#8, 0x59#8⟩, ⟨0xFF#8, 0x5A#8⟩, ⟨9#8, 0x3F#8⟩]

/-- An idle block at address 0x20 with the idle pattern on its port, a sink, and the next answers fixed. -/
def small (debug : Bool) (keymap : List KeymapEntry) (answers : List (Option Byte)) : State :=
  { State.construct { devAddr := 0x20#7, debug := debug, keymap := keymap, tSettle := 50 } true with
    answers := answers, portOut := 0x0F#8 }

/-- The block in the middle of an operation. -/
def during (p : Phase) (op : Operation) (s : State) : State := { s with phase := p, inProgress := some op }

def after (o : Host.Outcome State Fault Refusal) : Option State :=
  match o with
  | .next s => some s
  | .fault _ => none
  | .refused _ => none

/-- V1.3: INIT from a port at 0xF0. -/
theorem test_init_writes_idle :
    (after (exec .init { small false k3 [] with portOut := 0xF0#8 })).map
      (fun t => (t.portOut, t.trace.take 1, t.trace.length)) =
    some (0x0F#8, [.write 0x20#7 0x0F#8], 2) := rfl

/-- V2.13. -/
theorem test_scan_xor :
    (after (exec .scan (small false k3 [some 0x12#8, some 0x34#8]))).map (fun t => (t.r1, t.r2, t.raw, t.portOut)) =
    some (0x12#8, 0x34#8, 0x26#8, 0x0F#8) := rfl

/-- V3.4, the draws left free: both diagnostics, each after its read. -/
theorem test_scan_no_data :
    (after (exec .scan (small true k3 [none, none]))).map (fun t => (t.r1, t.r2, t.trace.take 7, t.sink)) =
    some (Config.draw8 0, Config.draw8 1,
      [.delay 50, .read 0x20#7 1 none, .diag (.noData .first), .write 0x20#7 0xF0#8, .read 0x20#7 1 none,
        .diag (.noData .second), .write 0x20#7 0x0F#8],
      some [.noData .first, .noData .second]) := rfl

/-- V4.12: the lowest of two equal codes wins. -/
theorem test_resolve_first_match :
    (after (exec (.resolve 5#8) (small false v4 []))).map (fun t => (t.idx, t.key, t.pressed, t.trace)) =
    some (0, 0x58#8, true, [.resp 0x158#9]) := by decide

/-- V4.17: what the sink receives for 0xFE. -/
theorem test_resolve_diagnostic :
    (after (exec (.resolve 0xFE#8) (small true [⟨0xFE#8, 0x4B#8⟩] []))).map (fun t => (t.trace, t.sink)) =
    some ([.diag (.rawScan 0xFE#8), .resp 0x14B#9],
      some [.rawScan 254 [true, true, true, true, true, true, true, false]]) := by decide

/-- S6: the source's first scenario. -/
theorem test_poll_scenario_1 :
    (after (exec .poll (small false k3 [some 0x00#8, some 0x01#8]))).map (fun t => (t.raw, t.idx, t.key, t.trace)) =
    some (0x01#8, 0, 0x41#8, [.delay 50, .read 0x20#7 1 (some 0x00#8), .write 0x20#7 0xF0#8,
      .read 0x20#7 1 (some 0x01#8), .write 0x20#7 0x0F#8, .resp 0x141#9]) := by decide

/-- S7: equal reads are key activity, here unmapped. -/
theorem test_poll_scenario_2 :
    (after (exec .poll (small false k3 [some 0x0F#8, some 0x0F#8]))).map (fun t => (t.raw, t.idx, t.key, t.pressed)) =
    some (0x00#8, 3, 0x3F#8, true) := by decide

theorem test_wr_idle_is_the_write : (after (exec .wrIdle (small false k3 []))).map (fun t => busCalls t) =
    some [.beginTransaction 0x20#7, .write 0x0F#8, .endTransaction] := rfl

theorem test_wr_scan_is_the_write : (after (exec .wrScan (small false k3 []))).map (fun t => (t.portOut, busCalls t)) =
    some (0xF0#8, [.beginTransaction 0x20#7, .write 0xF0#8, .endTransaction]) := rfl

/-- G4's table at its corners, and at V2.11. -/
theorem test_keypad_codes : keypadCode 0 0 = 0xEE#8 ∧ keypadCode 3 3 = 0x77#8 ∧ keypadCode 1 2 = 0xBD#8 ∧
    keypadReads (some (1, 2)) 0x0F#8 = 0x0D#8 ∧ keypadReads (some (1, 2)) 0xF0#8 = 0xB0#8 := by decide

/-! ## The host's entry: every row runs as the first instruction after reset -/

theorem test_first_instruction_cmd :
    (after (step (State.reset.withFetchWord 16 0x000))).isSome ∧ (after (step (State.reset.withFetchWord 16 0x100))).isSome ∧
    (after (step (State.reset.withFetchWord 16 0x200))).isSome ∧ (after (step (State.reset.withFetchWord 16 0x300))).isSome :=
  ⟨rfl, rfl, rfl, rfl⟩

theorem test_first_instruction_pat :
    (after (step (State.reset.withFetchWord 8 0x0F))).map (·.portOut) = some 0x0F#8 ∧
    (after (step (State.reset.withFetchWord 8 0xF0))).map (·.portOut) = some 0xF0#8 := ⟨rfl, rfl⟩

/-! ## Witnesses: concrete states and operands that meet the hypotheses of the statements -/

/-- CommandWordsDecodeByMatchAndMask, each row at its first or last word. -/
theorem test_witness_match_and_mask : 0x0FF#10 &&& 0x300#10 = 0x000#10 ∧ 0x100#10 &&& 0x300#10 = 0x100#10 ∧
    0x2FF#10 &&& 0x300#10 = 0x200#10 ∧ 0x3FF#10 &&& 0x300#10 = 0x300#10 := by decide

/-- ArgumentIsIgnoredWhereUnused. -/
theorem test_witness_ignored_argument : (0b10#2 : BitVec 2) ≠ 0b11#2 := by decide

/-- OnlyTheTwoPatternsArePortBytes. -/
theorem test_witness_other_pattern : (0x00#8 : Byte) ≠ 0x0F#8 ∧ (0x00#8 : Byte) ≠ 0xF0#8 := by decide

/-- ScriptLinesAssemble. -/
theorem test_witness_script_line : lineOf (.resolve 0xA0#8) = some "RESOLVE 0xA0".toList ∧ lineOf .poll = some "POLL".toList := by
  decide

/-- StepRunsTheIssuedCommand. -/
theorem test_witness_issued : (State.reset.withFetchWord 16 0x3FF).phase = .idle ∧
    (State.reset.withFetchWord 16 0x3FF).script = 0x3FF#10 :: [] := ⟨rfl, rfl⟩

/-- IdleBlockWaitsForACommand; also every statement whose one hypothesis is PHASE in IDLE. -/
theorem test_witness_idle : State.reset.phase = .idle ∧ State.reset.script = [] ∧ (small true k3 []).phase = .idle :=
  ⟨rfl, rfl, rfl⟩

/-- BusyBlockTakesNoCommand, PhasesFollowTheTransitionTable. -/
theorem test_witness_busy : (during .sSettle .scan (small false k3 [])).phase ≠ .idle ∧ Instr.init.format = .cmd ∧
    (Instr.resolve 0#8).format = .cmd := by decide

/-- StepSendsThePortByteOfItsPhase: I_WRITE, S_DRIVE, S_RESTORE of a POLL and S_RESTORE of a SCAN. -/
theorem test_witness_sending : (during .iWrite .init (small false k3 [])).phase = .iWrite ∧
    (during .sDrive .scan (small false k3 [])).phase = .sDrive ∧
    (during .sRestore .poll (small false k3 [])).inProgress = some .poll ∧
    (during .sRestore .scan (small false k3 [])).inProgress ≠ some .poll := by decide

/-- PortReadIsOneTransaction: an answer with data and one without. -/
theorem test_witness_answers : nextAnswer (small false k3 [some 0xFF#8]) = some 0xFF#8 ∧
    nextAnswer (small false k3 [none]) = none := ⟨rfl, rfl⟩

/-- EveryBusCallNamesDevAddr, StepsKeepTheTraceInOrder: a state after an INIT, with its call that names the device. -/
theorem test_witness_trace_in_order : TraceInOrder (writeIdle (small false k3 [])) ∧
    BusCall.beginTransaction 0x20#7 ∈ busCalls (writeIdle (small false k3 [])) ∧
    addressOf (.beginTransaction 0x20#7) = some 0x20#7 := by
  refine ⟨⟨fun e he => ?_, fun v hv => ?_⟩, by decide, rfl⟩
  · obtain rfl : e = .write 0x20#7 0x0F#8 := by simpa [writeIdle, small, State.construct, idlePattern] using he
    exact ⟨rfl, .inl rfl⟩
  · obtain rfl : 0x0F#8 = v := by simpa [writeIdle, small, State.construct, lastWritten, idlePattern] using hv
    rfl

/-- The statements about what an instruction that answered a next state left: SecondInitDoesTheSameWrite,
ScanLeavesTheRestAlone, PollLeavesTheRestAlone, PressedIsWrittenByResolvingOnly, PortEndsAtTheIdlePattern,
ConfigurationIsNeverWritten, OldRegistersAreNeverObserved. -/
theorem test_witness_exec_next (s : State) (h : s = small true k3 [none, some 0#8]) :
    (∃ t, exec .init s = .next t) ∧ (∃ t, exec .scan s = .next t) ∧ (∃ t, exec .poll s = .next t) ∧
    (∃ t, exec (.resolve 0#8) s = .next t) ∧ (∃ t, exec .wrIdle s = .next t) ∧ ∃ t, exec .wrScan s = .next t := by
  subst h; exact ⟨⟨_, rfl⟩, ⟨_, rfl⟩, ⟨_, rfl⟩, ⟨_, rfl⟩, ⟨_, rfl⟩, ⟨_, rfl⟩⟩

/-- The same for a step: TraceOnlyGrows, DebugIsObservationOnly, SinkChangesNothingElse, the invariants. -/
theorem test_witness_step_next : (∃ t, step (State.reset.withFetchWord 16 0x100) = .next t) ∧
    ∃ t, step (during .kSearch .resolve (small true k3 [])) = .next t := ⟨⟨_, rfl⟩, ⟨_, rfl⟩⟩

/-- ScanReadsTwiceAndRestores and ScanByteOfEqualAndOfOppositeReads: both reads with data, both without, and the pattern
driven read back. -/
theorem test_witness_upcoming : upcoming (small false k3 [some 0x0F#8, some 0xF0#8]) 0 = some 0x0F#8 ∧
    upcoming (small false k3 [some 0x0F#8, some 0xF0#8]) 1 = some 0xF0#8 ∧
    upcoming (small false k3 [none, none]) 0 = none ∧ upcoming (small false k3 [none, none]) 1 = none :=
  ⟨rfl, rfl, rfl, rfl⟩

/-- ScanLeavesTheRestAlone, PollLeavesTheRestAlone: DEBUG at 0, and no sink. -/
theorem test_witness_no_diagnostics : (small false k3 []).cfg.debug = false ∧
    ({ small true k3 [] with sink := none } : State).sink = none := ⟨rfl, rfl⟩

/-- PollLeavesTheRestAlone, PollOutcomesForTheHost: a poll without and one with key activity. -/
theorem test_witness_poll_raw :
    (after (exec .poll (small false k3 [some 0x0F#8, some 0xF0#8]))).map (·.raw) = some 0xFF#8 ∧
    (after (exec .poll (small false k3 [some 0x0F#8, some 0x0F#8]))).map (·.raw) = some 0x00#8 := by decide

/-- ResolveSearchesFromPositionZero: stopping at the first position, at N, and in an empty keymap. -/
theorem test_witness_search : searchStop k3 1#8 = 0 ∧ searchStop k3 0#8 = 3 ∧ searchStop [] 1#8 = 0 ∧
    (0#8 : Byte) ≠ 0xFF#8 ∧ (1#8 : Byte) ≠ 0xFF#8 := by decide

/-- ResolveOfAMappedCode at the last position. -/
theorem test_witness_mapped : (small false k3 []).phase = .idle ∧ (0x04#8 : Byte) ≠ 0xFF#8 ∧
    (small false k3 []).cfg.keymap[2]? = some ⟨4#8, 0x43#8⟩ ∧
    ∀ j e, j < 2 → (small false k3 []).cfg.keymap[j]? = some e → e.code ≠ 0x04#8 := by
  refine ⟨rfl, by decide, rfl, fun j e hj he => ?_⟩
  have : j = 0 ∨ j = 1 := by omega
  rcases this with rfl | rfl <;> cases he <;> decide

/-- ResolveOfAnUnmappedCode. -/
theorem test_witness_unmapped : (0xFE#8 : Byte) ≠ 0xFF#8 ∧ ∀ e ∈ (small false k3 []).cfg.keymap, e.code ≠ 0xFE#8 := by
  decide

/-- ResolveDependsOnTheByteAlone: two states of one configuration that differ elsewhere, a byte with PRESSED at 1. -/
theorem test_witness_same_configuration : (small true k3 []).cfg = (small true k3 [none]).cfg ∧
    (∃ t, exec (.resolve 2#8) (small true k3 []) = .next t ∧ t.pressed = true) ∧
    ∃ t, exec (.resolve 2#8) (small true k3 [none]) = .next t := ⟨rfl, ⟨_, rfl, rfl⟩, ⟨_, rfl⟩⟩

/-- ResolveDependsOnTheByteAlone, ties: a byte that two entries hold, the first at position 0. -/
theorem test_witness_tie : (∃ t, exec (.resolve 5#8) (small false v4 []) = .next t ∧ t.pressed = true) ∧
    (small false v4 []).cfg.keymap[0]? = some ⟨5#8, 0x58#8⟩ ∧ (small false v4 []).cfg.keymap[1]? = some ⟨5#8, 0x59#8⟩ ∧
    ∀ k e, k < 0 → (small false v4 []).cfg.keymap[k]? = some e → e.code ≠ 5#8 :=
  ⟨⟨_, rfl, rfl⟩, rfl, rfl, fun k _ hk => absurd hk (Nat.not_lt_zero k)⟩

/-- ResolveTouchesNeitherPortNorReads: a byte with PRESSED at 1 and one with PRESSED at 0. -/
theorem test_witness_resolve_pressed :
    (after (exec (.resolve 4#8) (small false k3 []))).map (fun t => (t.pressed, t.trace)) = some (true, [.resp 0x143#9]) ∧
    (after (exec (.resolve 0xFF#8) (small false k3 []))).map (·.pressed) = some false := by decide

/-- ResolveReportsKeyActivity, with a sink and without one. -/
theorem test_witness_report : (small true k3 []).phase = .idle ∧ (small true k3 []).cfg.debug = true ∧
    (0x00#8 : Byte) ≠ 0xFF#8 ∧ (small true k3 []).sink = some [] ∧
    ({ small true k3 [] with sink := none } : State).sink = none := ⟨rfl, rfl, by decide, rfl, rfl⟩

/-- PhasesFollowTheTransitionTable, the rows with a condition: S_RESTORE of SCAN and POLL, K_TEST with and without 0xFF,
K_SEARCH at a mismatch, at a match and at N. -/
theorem test_witness_rows :
    (during .sRestore .scan (small false k3 [])).inProgress = some .scan ∧
    (during .sRestore .poll (small false k3 [])).inProgress = some .poll ∧
    ({ during .kTest .poll (small false k3 []) with raw := 0xFF#8 } : State).raw = 0xFF#8 ∧
    ({ during .kTest .poll (small false k3 []) with raw := 0x04#8 } : State).raw ≠ 0xFF#8 ∧
    (k3[1]? = some ⟨2#8, 0x42#8⟩ ∧ (2#8 : Byte) ≠ 0x04#8) ∧ (k3[2]? = some ⟨4#8, 0x43#8⟩ ∧ (4#8 : Byte) = 0x04#8) ∧
    ({ during .kSearch .poll (small false k3 []) with idx := 3 } : State).idx = (small false k3 []).cfg.n := by
  decide

/-- EveryOperationEndsWithOneResponse, OperationsRunTheTransitionTable. -/
theorem test_witness_command : Instr.poll.format = .cmd ∧ (small false [] []).phase = .idle := ⟨rfl, rfl⟩

/-- PhasesFollowTheTransitionTable: at N of an empty keymap, K_SEARCH in order. -/
theorem test_witness_sequencer_at_end :
    SequencerInOrder { during .kSearch .resolve (small false [] []) with raw := 0x00#8, idx := 0 } :=
  ⟨rfl, by decide, fun _ => ⟨show (0x00#8 : Byte) ≠ noKey by decide, fun j _ hj _ => absurd hj (Nat.not_lt_zero j)⟩⟩

/-- StepsKeepTheSequencerInOrder, and PhasesFollowTheTransitionTable at a match: a search that has passed two entries. -/
theorem test_witness_sequencer :
    SequencerInOrder { during .kSearch .poll (small false k3 []) with raw := 0x04#8, idx := 2 } := by
  refine ⟨rfl, by decide, fun _ => ⟨show (0x04#8 : Byte) ≠ noKey by decide, fun j e hj he => ?_⟩⟩
  have : j = 0 ∨ j = 1 := by simp at hj; omega
  rcases this with rfl | rfl <;> cases he <;> decide

/-- StepsKeepThePortInOrder: between S_DRIVE and S_RESTORE, and in IDLE. -/
theorem test_witness_port : PortInOrder { during .sXor .scan (small false k3 []) with portOut := 0xF0#8 } ∧
    PortInOrder (small false k3 []) := ⟨rfl, rfl⟩

/-- KeymapUniqueMeansNoCodeTwice: both sides hold of K3. -/
theorem test_witness_unique : keymapUnique k3 = true := by decide

/-- CoveredCodesResolveToAnEntry. -/
theorem test_witness_covers : keymapCovers (small false k3 []).cfg.keymap [1#8, 4#8] = true ∧ 4#8 ∈ [1#8, 4#8] ∧
    (4#8 : Byte) ≠ 0xFF#8 := by decide

/-- PollDetectsTheHeldKey: key (3,3) held, mapped, and no key held. -/
theorem test_witness_held : (small false [⟨0x77#8, 0x44#8⟩] [some 0x07#8, some 0x70#8]).portOut = 0x0F#8 ∧
    (small false [⟨0x77#8, 0x44#8⟩] [some 0x07#8, some 0x70#8]).answers =
      some (keypadReads (some (3, 3)) 0x0F#8) :: some (keypadReads (some (3, 3)) 0xF0#8) :: [] ∧
    keymapUnique [⟨0x77#8, 0x44#8⟩] = true ∧ keypadCode 3 3 = 0x77#8 ∧
    (small false k3 [some 0x0F#8, some 0xF0#8]).answers =
      some (keypadReads none 0x0F#8) :: some (keypadReads none 0xF0#8) :: [] := by decide

end Sys2Proof.Tests
end

section
/-! # The statements of spec/10_state.md

One equation per transition function, frame lemmas for the transition and for the sequence of RESOLVE, and then the
statements: the invariants every step keeps, what the operations leave, the transition table, construction. -/

namespace Sys2Proof.Machine

/-! ## What each phase does, as one update of the state (spec/10_state.md R32) -/

theorem initWrite_eq (s : State) : initWrite s = { s with
    phase := .idle
    inProgress := none
    portOut := idlePattern
    trace := s.trace ++ [.write s.cfg.devAddr idlePattern, .resp (filler s)]
    responses := s.responses + 1 } := by
  ext1 <;> simp [initWrite]

theorem settle_eq (s : State) : settle s = { s with
    phase := .sRead1
    trace := s.trace ++ [.delay s.cfg.tSettle] } := rfl

theorem readFirst_eq (s : State) : readFirst s = { s with
    phase := .sDrive
    r1 := rd (nextAnswer s) (drawn s)
    trace := s.trace ++ [.read s.cfg.devAddr 1 (nextAnswer s)] ++ noDataEvents .first (nextAnswer s) s.cfg.debug
    sink := s.sink.map (fun got => got ++ noDataRecords .first (nextAnswer s) s.cfg.debug)
    answers := s.answers.tail
    reads := s.reads + 1
    draws := s.draws + 1 } := by
  ext1 <;> simp [readFirst, noDataNotice_sink]

theorem drive_eq (s : State) : drive s = { s with
    phase := .sRead2
    portOut := scanPattern
    trace := s.trace ++ [.write s.cfg.devAddr scanPattern] } := rfl

theorem readSecond_eq (s : State) : readSecond s = { s with
    phase := .sXor
    r2 := rd (nextAnswer s) (drawn s)
    trace := s.trace ++ [.read s.cfg.devAddr 1 (nextAnswer s)] ++ noDataEvents .second (nextAnswer s) s.cfg.debug
    sink := s.sink.map (fun got => got ++ noDataRecords .second (nextAnswer s) s.cfg.debug)
    answers := s.answers.tail
    reads := s.reads + 1
    draws := s.draws + 1 } := by
  ext1 <;> simp [readSecond, noDataNotice_sink]

theorem combine_eq (s : State) : combine s = { s with phase := .sRestore, raw := s.r1 ^^^ s.r2 } := rfl

theorem restore_of_poll {s : State} (h : s.inProgress = some .poll) : restore s = enter .kTest (writeIdle s) :=
  (restore_cases s).elim And.right fun hn => absurd h hn.1

theorem restore_of_not_poll {s : State} (h : s.inProgress ≠ some .poll) :
    restore s = finish (scanResponse s) (writeIdle s) :=
  (restore_cases s).elim (fun hn => absurd hn.1 h) And.right

theorem testNoKey_of_noKey {s : State} (h : s.raw = noKey) : testNoKey s = conclude (drawn s) (afterDraw s) := by
  rw [testNoKey, if_pos h, resolveNoKey]

/-- K_TEST with key activity: the diagnostic, and the search starts at position 0. -/
theorem testNoKey_of_activity {s : State} (h : s.raw ≠ noKey) : testNoKey s = { s with
    phase := .kSearch
    idx := 0
    trace := s.trace ++ rawScanEvents s.raw s.cfg.debug
    sink := s.sink.map (fun got => got ++ rawScanRecords s.raw s.cfg.debug) } := by
  have hr : s.raw ≠ 0xFF#8 := h
  rw [testNoKey, if_neg h]
  ext1 <;> cases hd : s.cfg.debug <;> simp [startSearch, rawScanEvents, rawScanRecords, diagRecord, hd, hr]

theorem searchOne_of_match {s : State} {e : KeymapEntry} (hk : s.cfg.keymap[s.idx]? = some e) (hc : e.code = s.raw) :
    searchOne s = conclude e.key s := by
  simp [searchOne, keymapAt, hk, hc]

theorem searchOne_of_other {s : State} {e : KeymapEntry} (hk : s.cfg.keymap[s.idx]? = some e) (hc : e.code ≠ s.raw) :
    searchOne s = setIdx (s.idx + 1) s := by
  simp [searchOne, keymapAt, hk, hc]

theorem searchOne_of_end {s : State} (hk : s.cfg.keymap[s.idx]? = none) : searchOne s = conclude unknownKey s := by
  simp [searchOne, keymapAt, hk]

/-! ## What a transition leaves -/

/-- Every phase keeps the configuration and takes no command from the host. -/
theorem advance_frame (s : State) : (advance s).cfg = s.cfg ∧ (advance s).script = s.script := by
  cases hp : s.phase with
  | idle => simp [advance, hp]
  | iWrite => simp [advance_iWrite hp, initWrite_eq]
  | sSettle => simp [advance_sSettle hp, settle_eq]
  | sRead1 => simp [advance_sRead1 hp, readFirst_eq]
  | sDrive => simp [advance_sDrive hp, drive_eq]
  | sRead2 => simp [advance_sRead2 hp, readSecond_eq]
  | sXor => simp [advance_sXor hp, combine_eq]
  | sRestore => rcases restore_cases s with ⟨-, e⟩ | ⟨-, e⟩ <;> simp [advance_sRestore hp, e]
  | kTest =>
    by_cases hr : s.raw = noKey
    · simp [advance_kTest hp, testNoKey_of_noKey hr]
    · simp [advance_kTest hp, testNoKey_of_activity hr]
  | kSearch =>
    rcases searchOne_cases s with ⟨_, -, -, e⟩ | ⟨_, -, -, e⟩ | ⟨-, e⟩ <;> simp [advance_kSearch hp, e]

/-! ## What the sequence of RESOLVE leaves, whatever is in RAW -/

section
variable (s : State)

@[simp] theorem resolveSequence_cfg : (resolveSequence s).cfg = s.cfg := by
  unfold resolveSequence; split <;> simp [resolveNoKey, searchAll, startSearch]

@[simp] theorem resolveSequence_phase : (resolveSequence s).phase = .idle := by
  unfold resolveSequence; split <;> simp [resolveNoKey, searchAll]

@[simp] theorem resolveSequence_inProgress : (resolveSequence s).inProgress = none := by
  unfold resolveSequence; split <;> simp [resolveNoKey, searchAll]

@[simp] theorem resolveSequence_raw : (resolveSequence s).raw = s.raw := by
  unfold resolveSequence; split <;> simp [resolveNoKey, searchAll, startSearch]

@[simp] theorem resolveSequence_portOut : (resolveSequence s).portOut = s.portOut := by
  unfold resolveSequence; split <;> simp [resolveNoKey, searchAll, startSearch]

/-- PRESSED by its rule (spec/10_state.md R29). -/
@[simp] theorem resolveSequence_pressed : (resolveSequence s).pressed = presence s.raw := by
  unfold resolveSequence; split <;> simp [resolveNoKey, searchAll, startSearch]

/-- A resolve keeps IDX in its range: it leaves it, or stops within the keymap or at its end. -/
theorem resolveSequence_idx_le (h : s.idx ≤ s.cfg.n) : (resolveSequence s).idx ≤ s.cfg.n := by
  by_cases hr : s.raw = noKey
  · rw [resolveSequence_of_noKey hr]; exact h
  · rw [resolveSequence_of_activity hr]; exact searchStop_le _ _

end

/-! ## The step in IDLE -/

theorem step_of_issued {s : State} {w : CmdWord} {rest : List CmdWord} (hp : s.phase = .idle) (hs : s.script = w :: rest) :
    step s = exec (decodeCmd w) { s with script := rest } := by
  simp [step, fetch, hp, hs]

theorem step_of_waiting {s : State} (hp : s.phase = .idle) (hs : s.script = []) : step s = .next s := by
  simp [step, fetch, hp, hs]

/-! ## What a host command that answers did -/

section
variable {s t : State}

theorem exec_init_next (h : exec .init s = .next t) : t = initWrite (begin .init .iWrite s) := by
  rw [exec, execInit] at h; exact (whenIdle_next h).2.symm

theorem exec_poll_next (h : exec .poll s = .next t) : t = resolveSequence (scanSequence (begin .poll .sSettle s)) := by
  rw [exec, execPoll] at h; exact (whenIdle_next h).2.symm

theorem exec_scan_next (h : exec .scan s = .next t) : t = scanSequence (begin .scan .sSettle s) := by
  rw [exec, execScan] at h; exact (whenIdle_next h).2.symm

theorem exec_resolve_next {raw : Byte} (h : exec (.resolve raw) s = .next t) : t = resolveSequence (loadRaw raw s) := by
  rw [exec, execResolve] at h; exact (whenIdle_next h).2.symm

end

/-! ## The sequencer stays in order (spec/10_state.md R27, R31, R32) -/

/-- In IDLE only the command in progress and the range of IDX count. -/
theorem SequencerInOrder.of_idle {t : State} (hp : t.phase = .idle) (ho : t.inProgress = none) (hi : t.idx ≤ t.cfg.n) :
    SequencerInOrder t :=
  ⟨by rw [hp, ho]; rfl, hi, fun h => by rw [hp] at h; cases h⟩

/-- A transition that keeps the command, IDX and the configuration, into a phase of that command other than the search. -/
theorem SequencerInOrder.of_phase {s t : State} (h : SequencerInOrder s)
    (hf : phaseFits t.phase s.inProgress = true) (hs : t.phase ≠ .kSearch)
    (ho : t.inProgress = s.inProgress) (hi : t.idx = s.idx) (hc : t.cfg = s.cfg) : SequencerInOrder t :=
  ⟨by rw [ho]; exact hf, by rw [hi, hc]; exact h.2.1, fun h => absurd h hs⟩

/-- Running an instruction at once keeps the sequencer in order. -/
theorem exec_keeps_sequencerInOrder {i : Instr} {s t : State} (h : SequencerInOrder s) (he : exec i s = .next t) :
    SequencerInOrder t := by
  have hi : s.idx ≤ s.cfg.n := h.2.1
  rcases exec_cases he with ⟨-, -, rfl⟩ | ⟨-, -, rfl⟩ | ⟨-, -, rfl⟩ | ⟨raw, -, -, rfl⟩ | ⟨-, rfl⟩ | ⟨-, rfl⟩
  · rw [initWrite_eq]; exact .of_idle rfl rfl hi
  · refine .of_idle (by simp) (by simp) ?_
    rw [resolveSequence_cfg]; apply resolveSequence_idx_le; rw [scanSequence_of_poll]; exact hi
  · rw [scanSequence_of_scan]; exact .of_idle rfl rfl hi
  · refine .of_idle (by simp) (by simp) ?_
    rw [resolveSequence_cfg]; exact resolveSequence_idx_le _ hi
  · exact h
  · exact h

/-- One position of the search: the next position is still in the keymap or at its end, and the position passed holds
another code. -/
theorem searchOne_keeps_sequencerInOrder {s : State} (hp : s.phase = .kSearch) (h : SequencerInOrder s) :
    SequencerInOrder (searchOne s) := by
  obtain ⟨hf, hi, hs⟩ := h
  rcases searchOne_cases s with ⟨e, -, -, he⟩ | ⟨e, hk, hc, he⟩ | ⟨-, he⟩
  · rw [he]; exact .of_idle rfl rfl hi
  · obtain ⟨hraw, hpassed⟩ := hs hp
    rw [he]
    refine ⟨hf, (List.getElem?_eq_some_iff.mp hk).1, fun _ => ⟨hraw, fun j e' hj hk' => ?_⟩⟩
    rcases Nat.lt_succ_iff_lt_or_eq.mp hj with hlt | rfl
    · exact hpassed j e' hlt hk'
    · obtain rfl : e = e' := Option.some.inj (hk.symm.trans hk')
      exact hc
  · rw [he]; exact .of_idle rfl rfl hi

/-- One transition keeps the sequencer in order. -/
theorem advance_keeps_sequencerInOrder {s : State} (h : SequencerInOrder s) : SequencerInOrder (advance s) := by
  have ⟨hf, hi, _⟩ := h
  cases hp : s.phase with
  | idle => simpa [advance, hp] using h
  | iWrite => rw [advance_iWrite hp, initWrite_eq]; exact .of_idle rfl rfl hi
  | sSettle => rw [hp] at hf; rw [advance_sSettle hp, settle_eq]; exact .of_phase h hf nofun rfl rfl rfl
  | sRead1 => rw [hp] at hf; rw [advance_sRead1 hp, readFirst_eq]; exact .of_phase h hf nofun rfl rfl rfl
  | sDrive => rw [hp] at hf; rw [advance_sDrive hp, drive_eq]; exact .of_phase h hf nofun rfl rfl rfl
  | sRead2 => rw [hp] at hf; rw [advance_sRead2 hp, readSecond_eq]; exact .of_phase h hf nofun rfl rfl rfl
  | sXor => rw [hp] at hf; rw [advance_sXor hp, combine_eq]; exact .of_phase h hf nofun rfl rfl rfl
  | sRestore =>
    rw [advance_sRestore hp]
    rcases restore_cases s with ⟨ho, e⟩ | ⟨-, e⟩ <;> rw [e]
    · exact .of_phase h (by rw [ho]; rfl) nofun rfl rfl rfl
    · exact .of_idle rfl rfl hi
  | kTest =>
    rw [hp] at hf; rw [advance_kTest hp]
    by_cases hr : s.raw = noKey
    · rw [testNoKey_of_noKey hr]; exact .of_idle rfl rfl hi
    · rw [testNoKey_of_activity hr]
      exact ⟨hf, Nat.zero_le _, fun _ => ⟨hr, fun j _ hj => absurd hj (Nat.not_lt_zero j)⟩⟩
  | kSearch => rw [advance_kSearch hp]; exact searchOne_keeps_sequencerInOrder hp h

/-- Settles O47: the block waits, runs a command at once, or makes one transition, and each keeps the invariant. -/
theorem stepsKeepTheSequencerInOrder : Obligations.StepsKeepTheSequencerInOrder := by
  intro s t h hstep
  rcases step_cases hstep with ⟨-, -, rfl⟩ | ⟨w, rest, -, -, he⟩ | ⟨-, rfl⟩
  · exact h
  · exact exec_keeps_sequencerInOrder (s := { s with script := rest }) h he
  · exact advance_keeps_sequencerInOrder h

/-! ## Every operation ends with one response (spec/10_state.md R38) -/

theorem isResp_of_mem_noDataEvents {k : WhichRead} {a : Option Byte} {debug : Bool} {e : Event}
    (h : e ∈ noDataEvents k a debug) : isResp e = false := by
  unfold noDataEvents at h
  split at h <;> simp_all [isResp]

theorem isResp_of_mem_rawScanEvents {raw : Byte} {debug : Bool} {e : Event} (h : e ∈ rawScanEvents raw debug) :
    isResp e = false := by
  unfold rawScanEvents at h
  split at h <;> simp_all [isResp]

/-- The events of a scan, without the response that SCAN sends after them (spec/40_port_driver.md R91). -/
def scanEvents (s : State) : List Event :=
  [.delay s.cfg.tSettle, .read s.cfg.devAddr 1 (upcoming s 0)] ++ noDataEvents .first (upcoming s 0) s.cfg.debug
    ++ [.write s.cfg.devAddr scanPattern, .read s.cfg.devAddr 1 (upcoming s 1)]
    ++ noDataEvents .second (upcoming s 1) s.cfg.debug ++ [.write s.cfg.devAddr idlePattern]

theorem scan_trace (s : State) : (scanSequence (begin .scan .sSettle s)).trace =
    s.trace ++ scanEvents s ++ [.resp (rspWord (rspPressed (filler s)) (firstRead s ^^^ secondRead s))] := by
  simp [scanSequence_of_scan, scanEvents]

theorem poll_scan_trace (s : State) : (scanSequence (begin .poll .sSettle s)).trace = s.trace ++ scanEvents s := by
  simp [scanSequence_of_poll, scanEvents]

theorem isResp_of_mem_scanEvents {s : State} {e : Event} (h : e ∈ scanEvents s) : isResp e = false := by
  simp only [scanEvents, List.mem_append, List.mem_cons, List.not_mem_nil, or_false] at h
  obtain ((((rfl | rfl) | h) | rfl | rfl) | h) | rfl := h
  · rfl
  · rfl
  · exact isResp_of_mem_noDataEvents h
  · rfl
  · rfl
  · exact isResp_of_mem_noDataEvents h
  · rfl

/-- Settles O37, command by command: no event before the last is a response. -/
theorem everyOperationEndsWithOneResponse : Obligations.EveryOperationEndsWithOneResponse := by
  intro i s hf hp
  cases i with
  | init =>
    refine ⟨_, [.write s.cfg.devAddr idlePattern], filler s, exec_init_of_idle hp, ?_, ?_, ?_⟩
    · simp [initWrite_eq, filler]
    · simp [isResp]
    · simp [initWrite_eq]
  | poll =>
    have htrace := resolveSequence_trace (scanSequence (begin .poll .sSettle s))
    rw [poll_scan_trace, List.append_assoc s.trace] at htrace
    exact ⟨_, _, _, exec_poll_of_idle hp, htrace,
      fun e he => (List.mem_append.mp he).elim isResp_of_mem_scanEvents isResp_of_mem_rawScanEvents, by simp⟩
  | scan =>
    refine ⟨_, scanEvents s, _, exec_scan_of_idle hp, scan_trace s, fun e => isResp_of_mem_scanEvents, ?_⟩
    simp [scanSequence_of_scan]
  | resolve raw =>
    exact ⟨_, rawScanEvents raw s.cfg.debug, _, exec_resolve_of_idle raw hp, resolveSequence_trace _,
      fun e => isResp_of_mem_rawScanEvents, by simp⟩
  | wrIdle => cases hf
  | wrScan => cases hf

/-! ## PRESSED (spec/10_state.md R29) -/

/-- Settles O38: only the sequence of RESOLVE writes PRESSED, by `presence`. -/
theorem pressedIsWrittenByResolvingOnly : Obligations.PressedIsWrittenByResolvingOnly := by
  refine fun s t => ⟨fun i h hi => ?_, fun b h => ?_, fun h => ?_⟩
  · rcases hi with rfl | rfl | rfl | rfl
    · rw [exec_init_next h, initWrite_eq]; rfl
    · rw [exec_scan_next h, scanSequence_of_scan]
    · cases h; rfl
    · cases h; rfl
  · rw [exec_resolve_next h, resolveSequence_pressed, presence_eq_false]; rfl
  · rw [exec_poll_next h, resolveSequence_pressed, presence_eq_false, resolveSequence_raw]; rfl

/-! ## The port (spec/10_state.md R34) -/

/-- Settles O39: INIT and the scan end with the write of the idle pattern, and a resolve writes nothing. -/
theorem portEndsAtTheIdlePattern : Obligations.PortEndsAtTheIdlePattern := by
  refine fun s t => ⟨fun h => ?_, fun h => ?_, fun h => ?_, fun b h => ?_⟩
  · rw [exec_init_next h, initWrite_eq]; rfl
  · rw [exec_scan_next h, scanSequence_of_scan]; rfl
  · rw [exec_poll_next h, resolveSequence_portOut, scanSequence_of_poll]; rfl
  · rw [exec_resolve_next h, resolveSequence_portOut, loadRaw_portOut]

theorem portInOrder_of_idle {t : State} (hp : t.phase = .idle) : PortInOrder t ↔ t.portOut = idlePattern := by
  simp [PortInOrder, hp]

/-- A host command leaves the idle pattern on the port, or the port as it was. -/
theorem exec_portOut {i : Instr} {s t : State} (hf : i.format = .cmd) (h : exec i s = .next t) :
    t.portOut = idlePattern ∨ t.portOut = s.portOut := by
  obtain ⟨hinit, hscan, hpoll, hresolve⟩ := portEndsAtTheIdlePattern s t
  cases i with
  | init => exact .inl (hinit h)
  | poll => exact .inl (hpoll h)
  | scan => exact .inl (hscan h)
  | resolve raw => exact .inr (hresolve raw h)
  | wrIdle => cases hf
  | wrScan => cases hf

/-- One transition keeps the port in order: only I_WRITE, S_DRIVE and S_RESTORE write it. -/
theorem advance_keeps_portInOrder {s : State} (h : PortInOrder s) : PortInOrder (advance s) := by
  cases hp : s.phase with
  | idle => simpa [advance, hp] using h
  | iWrite => rw [advance_iWrite hp, initWrite_eq]; rfl
  | sSettle => rw [advance_sSettle hp, settle_eq]; simpa [PortInOrder, hp] using h
  | sRead1 => rw [advance_sRead1 hp, readFirst_eq]; simpa [PortInOrder, hp] using h
  | sDrive => rw [advance_sDrive hp, drive_eq]; rfl
  | sRead2 => rw [advance_sRead2 hp, readSecond_eq]; simpa [PortInOrder, hp] using h
  | sXor => rw [advance_sXor hp, combine_eq]; simpa [PortInOrder, hp] using h
  | sRestore => rcases restore_cases s with ⟨-, e⟩ | ⟨-, e⟩ <;> rw [advance_sRestore hp, e] <;> rfl
  | kTest =>
    have hs : s.portOut = idlePattern := by simpa [PortInOrder, hp] using h
    rw [advance_kTest hp]
    by_cases hr : s.raw = noKey
    · rw [testNoKey_of_noKey hr]; exact hs
    · rw [testNoKey_of_activity hr]; exact hs
  | kSearch =>
    have hs : s.portOut = idlePattern := by simpa [PortInOrder, hp] using h
    rcases searchOne_cases s with ⟨_, -, -, e⟩ | ⟨_, -, -, e⟩ | ⟨-, e⟩
    · rw [advance_kSearch hp, e]; exact hs
    · rw [advance_kSearch hp, e]; simpa [PortInOrder, hp] using hs
    · rw [advance_kSearch hp, e]; exact hs

/-- Settles O48: a command run at once ends in IDLE with the idle pattern there, and one transition keeps the pattern of its
phase. -/
theorem stepsKeepThePortInOrder : Obligations.StepsKeepThePortInOrder := by
  intro s t h hstep
  rcases step_cases hstep with ⟨-, -, rfl⟩ | ⟨w, rest, hp, -, he⟩ | ⟨-, rfl⟩
  · exact h
  · obtain ⟨u, -, -, hu, -, -, hidle, -⟩ := everyOperationEndsWithOneResponse _ { s with script := rest }
      (decodeCmd_format w) hp
    obtain rfl : u = t := by simpa [hu] using he
    rw [portInOrder_of_idle hidle]
    exact (exec_portOut (decodeCmd_format w) he).elim id fun e => e.trans ((portInOrder_of_idle hp).mp h)
  · exact advance_keeps_portInOrder h

/-! ## The configuration (spec/10_state.md R22) -/

theorem exec_cfg {i : Instr} {s t : State} (h : exec i s = .next t) : t.cfg = s.cfg := by
  rcases exec_cases h with ⟨-, -, rfl⟩ | ⟨-, -, rfl⟩ | ⟨-, -, rfl⟩ | ⟨raw, -, -, rfl⟩ | ⟨-, rfl⟩ | ⟨-, rfl⟩
  · rw [initWrite_eq]; rfl
  · rw [resolveSequence_cfg, scanSequence_of_poll]
  · rw [scanSequence_of_scan]
  · rw [resolveSequence_cfg, loadRaw_cfg]
  · rfl
  · rfl

/-- Settles O40: what each instruction and each transition leaves. -/
theorem configurationIsNeverWritten : Obligations.ConfigurationIsNeverWritten := by
  refine ⟨fun _ _ => rfl, fun i s t => exec_cfg, fun s t h => ?_⟩
  rcases step_cases h with ⟨-, -, rfl⟩ | ⟨w, rest, -, -, he⟩ | ⟨-, rfl⟩
  · rfl
  · exact exec_cfg (s := { s with script := rest }) he
  · exact (advance_frame s).1

/-! ## Old register contents (spec/10_state.md R25, R30) -/

/-- A resolve makes the same events whatever is in the registers other than RAW. -/
theorem resolveSequence_scrambled (s : State) (r1 r2 key : Byte) (pressed : Bool) (idx : Nat) :
    (resolveSequence (scrambled s r1 r2 s.raw key pressed idx)).trace = (resolveSequence s).trace := by
  by_cases hr : s.raw = noKey
  · rw [resolveSequence_of_noKey hr, resolveSequence_of_noKey (s := scrambled s r1 r2 s.raw key pressed idx) hr]; rfl
  · rw [resolveSequence_of_activity hr, resolveSequence_of_activity (s := scrambled s r1 r2 s.raw key pressed idx) hr]; rfl

/-- The scan of POLL overwrites R1, R2 and RAW with what it would write over any other values. -/
theorem poll_scan_scrambled (s : State) (r1 r2 raw key : Byte) (pressed : Bool) (idx : Nat) :
    scanSequence (begin .poll .sSettle (scrambled s r1 r2 raw key pressed idx)) =
      scrambled (scanSequence (begin .poll .sSettle s)) (firstRead s) (secondRead s)
        (scanSequence (begin .poll .sSettle s)).raw key pressed idx := by
  rw [scanSequence_of_poll, scanSequence_of_poll]; rfl

/-- Settles O42: a scan writes R1, R2 and RAW before it uses them, and a resolve uses RAW only, which RESOLVE loads. -/
theorem oldRegistersAreNeverObserved : Obligations.OldRegistersAreNeverObserved := by
  intro i s t r1 r2 raw key pressed idx h
  rcases exec_cases h with ⟨rfl, hp, rfl⟩ | ⟨rfl, hp, rfl⟩ | ⟨rfl, hp, rfl⟩ | ⟨b, rfl, hp, rfl⟩ | ⟨rfl, rfl⟩ | ⟨rfl, rfl⟩
  · exact ⟨_, exec_init_of_idle hp, rfl, rfl⟩
  · refine ⟨_, exec_poll_of_idle hp, ?_, ?_⟩
    · rw [poll_scan_scrambled, resolveSequence_scrambled]
    · rw [resolveSequence_portOut, resolveSequence_portOut, poll_scan_scrambled]; rfl
  · refine ⟨_, exec_scan_of_idle hp, ?_⟩
    rw [scanSequence_of_scan, scanSequence_of_scan]
    exact ⟨rfl, rfl⟩
  · refine ⟨_, exec_resolve_of_idle b hp, resolveSequence_scrambled (loadRaw b s) r1 r2 key pressed idx, ?_⟩
    rw [resolveSequence_portOut, resolveSequence_portOut]; rfl
  · exact ⟨_, rfl, rfl, rfl⟩
  · exact ⟨_, rfl, rfl, rfl⟩

/-! ## The sink (spec/10_state.md R36) -/

/-- `u` is `t` but for its sink, which is absent if `sink` is. -/
def SameButSink (sink : Option (List DiagRecord)) (t u : State) : Prop :=
  ∃ sink', u = withSink sink' t ∧ (sink = none → sink' = none)

/-- A resolve does the same whatever sink is connected. -/
theorem resolveSequence_withSink (sink : Option (List DiagRecord)) (s : State) :
    SameButSink sink (resolveSequence s) (resolveSequence (withSink sink s)) := by
  refine ⟨_, ?_, fun h => (resolveSequence_sink (withSink sink s)).trans (by rw [withSink_sink, h]; rfl)⟩
  by_cases hr : s.raw = noKey
  · rw [resolveSequence_of_noKey hr, resolveSequence_of_noKey (s := withSink sink s) hr]; rfl
  · rw [resolveSequence_of_activity hr, resolveSequence_of_activity (s := withSink sink s) hr]; rfl

/-- An instruction does the same whatever sink is connected. -/
theorem exec_withSink {i : Instr} {s t : State} (sink : Option (List DiagRecord)) (h : exec i s = .next t) :
    ∃ u, exec i (withSink sink s) = .next u ∧ SameButSink sink t u := by
  rcases exec_cases h with ⟨rfl, hp, rfl⟩ | ⟨rfl, hp, rfl⟩ | ⟨rfl, hp, rfl⟩ | ⟨b, rfl, hp, rfl⟩ | ⟨rfl, rfl⟩ | ⟨rfl, rfl⟩
  · exact ⟨_, exec_init_of_idle hp, sink, rfl, id⟩
  · refine ⟨_, exec_poll_of_idle hp, ?_⟩
    have hscan : SameButSink sink (scanSequence (begin .poll .sSettle s))
        (scanSequence (begin .poll .sSettle (withSink sink s))) := by
      rw [scanSequence_of_poll, scanSequence_of_poll]
      exact ⟨_, rfl, fun h => by rw [h]; rfl⟩
    obtain ⟨sink', hu, hnone⟩ := hscan
    obtain ⟨sink'', hv, hnone'⟩ := resolveSequence_withSink sink' (scanSequence (begin .poll .sSettle s))
    exact ⟨sink'', by rw [hu, hv], hnone' ∘ hnone⟩
  · refine ⟨_, exec_scan_of_idle hp, ?_⟩
    rw [scanSequence_of_scan, scanSequence_of_scan]
    exact ⟨_, rfl, fun h => by rw [h]; rfl⟩
  · exact ⟨_, exec_resolve_of_idle b hp, resolveSequence_withSink sink (loadRaw b s)⟩
  · exact ⟨_, rfl, sink, rfl, id⟩
  · exact ⟨_, rfl, sink, rfl, id⟩

/-- A transition does the same whatever sink is connected. -/
theorem advance_withSink (sink : Option (List DiagRecord)) (s : State) :
    SameButSink sink (advance s) (advance (withSink sink s)) := by
  have hsame : (withSink sink s).phase = s.phase := rfl
  cases hp : s.phase with
  | idle => exact ⟨sink, by simp [advance, hp], id⟩
  | iWrite => rw [advance_iWrite hp, advance_iWrite (hsame.trans hp)]; exact ⟨sink, rfl, id⟩
  | sSettle => rw [advance_sSettle hp, advance_sSettle (hsame.trans hp)]; exact ⟨sink, rfl, id⟩
  | sRead1 =>
    rw [advance_sRead1 hp, advance_sRead1 (hsame.trans hp), readFirst_eq, readFirst_eq]
    exact ⟨_, rfl, fun h => by rw [h]; rfl⟩
  | sDrive => rw [advance_sDrive hp, advance_sDrive (hsame.trans hp)]; exact ⟨sink, rfl, id⟩
  | sRead2 =>
    rw [advance_sRead2 hp, advance_sRead2 (hsame.trans hp), readSecond_eq, readSecond_eq]
    exact ⟨_, rfl, fun h => by rw [h]; rfl⟩
  | sXor => rw [advance_sXor hp, advance_sXor (hsame.trans hp)]; exact ⟨sink, rfl, id⟩
  | sRestore =>
    rw [advance_sRestore hp, advance_sRestore (hsame.trans hp)]
    by_cases ho : s.inProgress = some .poll
    · rw [restore_of_poll ho, restore_of_poll (s := withSink sink s) ho]; exact ⟨sink, rfl, id⟩
    · rw [restore_of_not_poll ho, restore_of_not_poll (s := withSink sink s) ho]; exact ⟨sink, rfl, id⟩
  | kTest =>
    rw [advance_kTest hp, advance_kTest (hsame.trans hp)]
    by_cases hr : s.raw = noKey
    · rw [testNoKey_of_noKey hr, testNoKey_of_noKey (s := withSink sink s) hr]
      exact ⟨sink, rfl, id⟩
    · rw [testNoKey_of_activity hr, testNoKey_of_activity (s := withSink sink s) hr]
      exact ⟨_, rfl, fun h => by rw [h]; rfl⟩
  | kSearch =>
    rw [advance_kSearch hp, advance_kSearch (hsame.trans hp)]
    rcases searchOne_cases s with ⟨e, hk, hc, he⟩ | ⟨e, hk, hc, he⟩ | ⟨hk, he⟩
    · rw [he, searchOne_of_match (s := withSink sink s) hk hc]; exact ⟨sink, rfl, id⟩
    · rw [he, searchOne_of_other (s := withSink sink s) hk hc]; exact ⟨sink, rfl, id⟩
    · rw [he, searchOne_of_end (s := withSink sink s) hk]; exact ⟨sink, rfl, id⟩

/-- Settles O44. -/
theorem sinkChangesNothingElse : Obligations.SinkChangesNothingElse := by
  intro s t sink hstep
  rcases step_cases hstep with ⟨hp, hs, rfl⟩ | ⟨w, rest, hp, hs, he⟩ | ⟨hp, rfl⟩
  · exact ⟨sink, step_of_waiting hp hs, id⟩
  · obtain ⟨u, hu, sink', rfl, hnone⟩ := exec_withSink sink he
    exact ⟨sink', (step_of_issued (s := withSink sink s) hp hs).trans hu, hnone⟩
  · obtain ⟨sink', hu, hnone⟩ := advance_withSink sink s
    exact ⟨sink', by rw [step_of_busy (s := withSink sink s) hp, hu], hnone⟩

/-! ## The transition table (spec/10_state.md R32) -/

/-- A resolve ends with the response that carries the result (spec/30_encoding.md R83). -/
theorem conclude_respondsWithResult (key : Byte) (s : State) : RespondsWithResult s.trace (conclude key s) :=
  ⟨_, rfl, rspPressed_rspWord _ _, fun _ => rspVal_rspWord _ _⟩

/-- A search in order is about key activity, so it ends with PRESSED 1. -/
theorem SequencerInOrder.pressed_of_search {s : State} (hp : s.phase = .kSearch) (key : Byte) (h : SequencerInOrder s) :
    (conclude key s).pressed = true := by
  obtain ⟨-, -, hsearch⟩ := h
  rw [conclude_pressed, presence_eq_true]
  exact (hsearch hp).1

/-- Settles O45, row by row: the equation of the phase's transition gives the next phase and the events. -/
theorem phasesFollowTheTransitionTable : Obligations.PhasesFollowTheTransitionTable := by
  intro s t hbusy hstep
  obtain rfl : advance s = t := Host.Outcome.next.inj ((step_of_busy hbusy).symm.trans hstep)
  refine ⟨fun hp => ?iWrite, fun hp => ?sSettle, fun hp => ?sRead1, fun hp => ?sDrive, fun hp => ?sRead2,
    fun hp => ?sXor, fun hp ho => ?restoreScan, fun hp ho => ?restorePoll, fun hp hr => ?testNoKey,
    fun hp hr => ?testActivity, fun e hp hk hc => ?searchOther, fun e hp hk hc => ?searchMatch,
    fun hp hn => ?searchEnd⟩
  case iWrite => rw [advance_iWrite hp, initWrite_eq]; exact ⟨rfl, _, rfl⟩
  case sSettle => rw [advance_sSettle hp]; exact ⟨rfl, rfl⟩
  case sRead1 => rw [advance_sRead1 hp, readFirst_eq, nextAnswer_eq_upcoming]; exact ⟨rfl, rfl⟩
  case sDrive => rw [advance_sDrive hp]; exact ⟨rfl, rfl⟩
  case sRead2 => rw [advance_sRead2 hp, readSecond_eq, nextAnswer_eq_upcoming]; exact ⟨rfl, rfl⟩
  case sXor => rw [advance_sXor hp]; exact ⟨rfl, rfl, rfl⟩
  case restoreScan =>
    rw [advance_sRestore hp, restore_of_not_poll (by rw [ho]; nofun)]
    exact ⟨rfl, scanResponse s, by simp [idlePattern], rspVal_rspWord _ _⟩
  case restorePoll => rw [advance_sRestore hp, restore_of_poll ho]; exact ⟨rfl, rfl⟩
  case testNoKey =>
    rw [advance_kTest hp, testNoKey_of_noKey hr]
    exact ⟨rfl, (presence_eq_false s.raw).mpr hr, conclude_respondsWithResult _ (afterDraw s)⟩
  case testActivity => rw [advance_kTest hp, testNoKey_of_activity hr]; exact ⟨rfl, rfl, rfl⟩
  case searchOther => rw [advance_kSearch hp, searchOne_of_other hk hc]; exact ⟨hp, rfl, rfl⟩
  case searchMatch =>
    rw [advance_kSearch hp, searchOne_of_match hk hc]
    exact ⟨rfl, rfl, rfl, conclude_respondsWithResult _ s, SequencerInOrder.pressed_of_search hp _⟩
  case searchEnd =>
    rw [advance_kSearch hp, searchOne_of_end (by rw [hn]; exact List.getElem?_eq_none (Nat.le_refl _))]
    exact ⟨rfl, rfl, rfl, conclude_respondsWithResult _ s, SequencerInOrder.pressed_of_search hp _⟩

/-! ## Operations as runs through the table (spec/10_state.md R32, R38) -/

/-- `k` transitions lead from `s` to `t`, each of them from a phase other than IDLE. -/
def RunsIn (k : Nat) (s t : State) : Prop :=
  advanceBy k s = t ∧ ∀ j, j < k → (advanceBy j s).phase ≠ .idle

theorem RunsIn.trans {a b : Nat} {s t u : State} (h : RunsIn a s t) (h' : RunsIn b t u) : RunsIn (a + b) s u := by
  obtain ⟨rfl, hbusy⟩ := h
  obtain ⟨rfl, hbusy'⟩ := h'
  refine ⟨advanceBy_add a b s, fun j hj => ?_⟩
  rcases Nat.lt_or_ge j a with hlt | hge
  · exact hbusy j hlt
  · obtain ⟨d, rfl⟩ := Nat.exists_eq_add_of_le hge
    rw [advanceBy_add]
    exact hbusy' d (by omega)

/-- In a run the machine's step is the next transition. -/
theorem RunsIn.step {k : Nat} {s t : State} (h : RunsIn k s t) {j : Nat} (hj : j < k) :
    step (advanceBy j s) = .next (advanceBy (j + 1) s) := by
  rw [step_of_busy (h.2 j hj), advanceBy_add]; rfl

/-- The command INIT is one transition. -/
theorem runsIn_init (s : State) : RunsIn 1 (begin .init .iWrite s) (initWrite (begin .init .iWrite s)) := by
  refine ⟨rfl, fun j hj => ?_⟩
  obtain rfl : j = 0 := by omega
  exact nofun

theorem runsIn_scan {s : State} (hp : s.phase = .sSettle) : RunsIn 6 s (scanSequence s) := advanceBy_scan hp

theorem runsIn_resolve {s : State} (hp : s.phase = .kTest) : ∃ k, k ≤ s.cfg.n + 2 ∧ RunsIn k s (resolveSequence s) :=
  advanceBy_resolve hp

/-- A host command run at once is a run through the table, of at most 8 + N transitions after it is taken. -/
theorem exec_runsIn {i : Instr} {s : State} (hf : i.format = .cmd) (hp : s.phase = .idle) :
    ∃ t k, exec i s = .next t ∧ k ≤ 8 + s.cfg.n ∧ RunsIn k (takeCommand i s) t := by
  cases i with
  | init => exact ⟨_, 1, exec_init_of_idle hp, by omega, runsIn_init s⟩
  | poll =>
    have hscan := runsIn_scan (begin_phase .poll .sSettle s)
    obtain ⟨hphase, hcfg⟩ : (scanSequence (begin .poll .sSettle s)).phase = .kTest ∧
        (scanSequence (begin .poll .sSettle s)).cfg = s.cfg := by rw [scanSequence_of_poll]; exact ⟨rfl, rfl⟩
    obtain ⟨k, hk, hresolve⟩ := runsIn_resolve hphase
    rw [hcfg] at hk
    exact ⟨_, 6 + k, exec_poll_of_idle hp, by omega, hscan.trans hresolve⟩
  | scan => exact ⟨_, 6, exec_scan_of_idle hp, by omega, runsIn_scan (begin_phase ..)⟩
  | resolve raw =>
    obtain ⟨k, hk, hresolve⟩ := runsIn_resolve (loadRaw_phase raw s)
    rw [loadRaw_cfg] at hk
    exact ⟨_, k, exec_resolve_of_idle raw hp, by omega, hresolve⟩
  | wrIdle => cases hf
  | wrScan => cases hf

/-- Settles O46. -/
theorem operationsRunTheTransitionTable : Obligations.OperationsRunTheTransitionTable := by
  intro i s hf hp
  obtain ⟨t, k, he, hk, hrun⟩ := exec_runsIn hf hp
  exact ⟨t, k, he, by omega, hrun.1, fun j hj => ⟨hrun.2 j hj, hrun.step hj⟩⟩

/-! ## Construction (spec/10_state.md R41) -/

/-- IDX is in its range after construction (spec/10_state.md R27). -/
theorem construct_idx_le (c : Configuration) (b : Bool) : (State.construct c b).idx ≤ c.n :=
  Nat.le_of_lt_succ (Nat.mod_lt _ (Nat.succ_pos _))

/-- Settles O8. -/
theorem constructionWaitsInIdle : Obligations.ConstructionWaitsInIdle :=
  ⟨fun c b => ⟨rfl, rfl, rfl, construct_idx_le c b, rfl, step_of_waiting rfl rfl⟩, rfl, rfl⟩

theorem construct_traceInOrder (c : Configuration) (b : Bool) : TraceInOrder (State.construct c b) :=
  ⟨fun _ h => absurd h List.not_mem_nil, nofun⟩

/-- Settles O50: nothing is in progress, IDX is in its range, and the trace is empty. -/
theorem resetIsInOrder : Obligations.ResetIsInOrder := by
  have h (c : Configuration) (b : Bool) : SequencerInOrder (State.construct c b) ∧ TraceInOrder (State.construct c b) :=
    ⟨.of_idle rfl rfl (construct_idx_le c b), construct_traceInOrder c b⟩
  exact ⟨h, h _ _⟩

/-! ## Steps and commands (spec/10_state.md R20, R21) -/

/-- Settles O9. -/
theorem stepRunsTheIssuedCommand : Obligations.StepRunsTheIssuedCommand :=
  fun _ w _ hp hs => ⟨decodeCmd w, rfl, step_of_issued hp hs⟩

/-- Settles O11: every command is refused, and a transition leaves the script. -/
theorem busyBlockTakesNoCommand : Obligations.BusyBlockTakesNoCommand :=
  fun s _ hp hf => ⟨exec_of_busy hf hp, advance s, step_of_busy hp, (advance_frame s).2⟩

/-- Outside IDLE the step is the transition of the phase. -/
theorem step_eq_of_phase {s t : State} {p : Phase} (hp : s.phase = p) (hb : p ≠ .idle) (ht : advance s = t) :
    step s = .next t := by
  rw [step_of_busy (hp ▸ hb), ht]

/-- Settles O12: the transitions that write the port do it by `writeIdle` or `writeScan`, as the two instructions do. -/
theorem stepSendsThePortByteOfItsPhase : Obligations.StepSendsThePortByteOfItsPhase := by
  refine fun s => ⟨fun hp => ?_, fun hp => ?_, fun hp ho => ?_, fun hp ho => ?_⟩
  · exact ⟨writeIdle s, rfl, step_eq_of_phase hp nofun (advance_iWrite hp)⟩
  · exact ⟨writeScan s, rfl, step_eq_of_phase hp nofun (advance_sDrive hp)⟩
  · exact ⟨writeIdle s, rfl, step_eq_of_phase hp nofun ((advance_sRestore hp).trans (restore_of_poll ho))⟩
  · exact ⟨writeIdle s, scanResponse s, rfl, rspVal_rspWord _ _,
      step_eq_of_phase hp nofun ((advance_sRestore hp).trans (restore_of_not_poll ho))⟩

end Sys2Proof.Machine
end

section
/-! # The statements of spec/20_memory.md

The bus calls of a longer trace, then the two transactions, the addresses on the bus, and the growth of the trace. -/

namespace Sys2Proof.Machine

/-! ## The calls of a longer trace -/

/-- The calls of the events added come after the calls made before. -/
theorem busCalls_of_trace {s t : State} {events : List Event} (h : t.trace = s.trace ++ events) :
    busCalls t = busCalls s ++ events.flatMap callsOf := by
  rw [busCalls, busCalls, h, List.flatMap_append]

/-- One event adds its own calls. -/
theorem busCalls_of_event {s t : State} {e : Event} (h : t.trace = s.trace ++ [e]) :
    busCalls t = busCalls s ++ callsOf e := by
  rw [busCalls_of_trace h, List.flatMap_singleton]

/-! ## The two transactions (spec/20_memory.md R46, R47) -/

/-- Settles O14: the write adds one event, whose calls are begin, write, end. -/
theorem portWriteIsOneTransaction : Obligations.PortWriteIsOneTransaction :=
  fun v s => ⟨rfl, busCalls_of_event (portWrite_trace v s)⟩

/-- Settles O15: the read adds one event, whose calls depend on the answer in it. -/
theorem portReadIsOneTransaction : Obligations.PortReadIsOneTransaction := by
  intro s
  have hcalls := busCalls_of_event (portRead_trace s)
  refine ⟨nextAnswer_eq_upcoming s, ?_, fun v hdata => ?_, fun hnone => ?_⟩
  · rw [List.drop_one]; rfl
  · rw [hcalls, hdata]; rfl
  · rw [hcalls, hnone]; rfl

/-- Settles O16: both instructions are the port write of their byte. -/
theorem portBytesAreWritten : Obligations.PortBytesAreWritten := by
  intro s
  obtain ⟨hidle, -⟩ := portWriteIsOneTransaction idlePattern s
  obtain ⟨hscan, -⟩ := portWriteIsOneTransaction scanPattern s
  exact ⟨congrArg Host.Outcome.next hidle, congrArg Host.Outcome.next hscan⟩

/-! ## The addresses on the bus (spec/20_memory.md R44) -/

/-- The addresses an event puts on the bus. -/
def addressesOf (e : Event) : List Adr := (callsOf e).filterMap addressOf

/-- An address named by a call of an event is one of the event's. -/
theorem mem_addressesOf {e : Event} {call : BusCall} {a : Adr} (hcall : call ∈ callsOf e) (ha : addressOf call = some a) :
    a ∈ addressesOf e :=
  List.mem_filterMap.mpr ⟨call, hcall, ha⟩

theorem addressesOf_write (a : Adr) (v : Byte) : addressesOf (.write a v) = [a] := rfl

/-- A read names its device once, with data or without. -/
theorem addressesOf_read (a : Adr) (n : Nat) (answer : Option Byte) : addressesOf (.read a n answer) = [a] := by
  cases answer <;> rfl

/-- An event in order puts no other address than DEV_ADDR on the bus. -/
theorem eq_devAddr_of_mem_addressesOf {c : Configuration} {e : Event} {a : Adr} (he : eventInOrder c e)
    (h : a ∈ addressesOf e) : a = c.devAddr := by
  cases e with
  | write address v => rw [addressesOf_write] at h; exact (List.mem_singleton.mp h).trans he.1
  | read address n answer => rw [addressesOf_read] at h; exact (List.mem_singleton.mp h).trans he.1
  | delay _ => exact absurd h List.not_mem_nil
  | diag _ => exact absurd h List.not_mem_nil
  | resp _ => exact absurd h List.not_mem_nil

/-- Settles O17: each call is made by an event of the trace, and that event is in order. -/
theorem everyBusCallNamesDevAddr : Obligations.EveryBusCallNamesDevAddr := by
  rintro s ⟨hevents, -⟩ call hmem a ha
  obtain ⟨e, he, hcall⟩ := List.mem_flatMap.mp hmem
  exact eq_devAddr_of_mem_addressesOf (hevents e he) (mem_addressesOf hcall ha)

/-! ## The trace only grows (spec/20_memory.md R59) -/

theorem resolveSequence_trace_prefix (s : State) : s.trace <+: (resolveSequence s).trace := by
  rw [resolveSequence_trace, List.append_assoc]; exact List.prefix_append _ _

/-- An instruction only adds events at the end of the trace. -/
theorem exec_trace_prefix {i : Instr} {s t : State} (h : exec i s = .next t) : s.trace <+: t.trace := by
  rcases exec_cases h with ⟨-, -, rfl⟩ | ⟨-, -, rfl⟩ | ⟨-, -, rfl⟩ | ⟨raw, -, -, rfl⟩ | ⟨-, rfl⟩ | ⟨-, rfl⟩
  · rw [initWrite_eq]; exact List.prefix_append _ _
  · have hscan : s.trace <+: (scanSequence (begin .poll .sSettle s)).trace := by
      rw [poll_scan_trace]; exact List.prefix_append _ _
    exact hscan.trans (resolveSequence_trace_prefix _)
  · rw [scan_trace, List.append_assoc]; exact List.prefix_append _ _
  · exact resolveSequence_trace_prefix (loadRaw raw s)
  · exact List.prefix_append _ _
  · exact List.prefix_append _ _

/-- A transition only adds events at the end of the trace. -/
theorem advance_trace_prefix (s : State) : s.trace <+: (advance s).trace := by
  cases hp : s.phase with
  | idle => simp [advance, hp]
  | iWrite => simp [advance_iWrite hp, initWrite_eq]
  | sSettle => simp [advance_sSettle hp, settle_eq]
  | sRead1 => simp [advance_sRead1 hp, readFirst_eq]
  | sDrive => simp [advance_sDrive hp, drive_eq]
  | sRead2 => simp [advance_sRead2 hp, readSecond_eq]
  | sXor => simp [advance_sXor hp, combine_eq]
  | sRestore =>
    rcases restore_cases s with ⟨-, e⟩ | ⟨-, e⟩
    · rw [advance_sRestore hp, e]; exact List.prefix_append _ _
    · simp [advance_sRestore hp, e, writeIdle]
  | kTest =>
    by_cases hr : s.raw = noKey
    · simp [advance_kTest hp, testNoKey_of_noKey hr]
    · simp [advance_kTest hp, testNoKey_of_activity hr]
  | kSearch =>
    rcases searchOne_cases s with ⟨_, -, -, e⟩ | ⟨_, -, -, e⟩ | ⟨-, e⟩ <;> simp [advance_kSearch hp, e]

/-- Settles O41: the block waits, runs a command at once, or makes one transition. -/
theorem traceOnlyGrows : Obligations.TraceOnlyGrows := by
  intro s t hstep
  have hprefix : s.trace <+: t.trace := by
    rcases step_cases hstep with ⟨-, -, rfl⟩ | ⟨w, rest, -, -, he⟩ | ⟨-, rfl⟩
    · exact List.prefix_refl _
    · exact exec_trace_prefix (s := { s with script := rest }) he
    · exact advance_trace_prefix s
  obtain ⟨added, h⟩ := hprefix
  exact ⟨added, h.symm⟩

end Sys2Proof.Machine
end

section
/-! # The statements of spec/30_encoding.md

The fields of a word read back, the opcode map row by row, the layout of a code in bytes, then the events that keep a trace
in order, and the lines of a script. -/

namespace Sys2Proof

/-! ## Command words (spec/30_encoding.md R80, R82, R84) -/

@[simp] theorem opField_cmdWord (op : BitVec 2) (arg : Byte) : opField (cmdWord op arg) = op :=
  BitVec.extractLsb'_append_eq_left

@[simp] theorem argField_cmdWord (op : BitVec 2) (arg : Byte) : argField (cmdWord op arg) = arg :=
  BitVec.extractLsb'_append_eq_right

theorem argField_eq_setWidth (w : CmdWord) : argField w = w.setWidth 8 :=
  (BitVec.setWidth_eq_extractLsb' (by decide)).symm

/-- The mask 0x300 keeps the field `op`. -/
theorem opField_and_mask (w : CmdWord) : opField (w &&& 0x300#10) = opField w := by
  have hmask : (0x300#10).extractLsb' 8 2 = BitVec.allOnes 2 := by decide
  rw [opField, BitVec.extractLsb'_and, hmask, BitVec.and_allOnes, opField]

/-- A word that matches under the mask has the `op` of what it matches. -/
theorem opField_of_match {w pattern : CmdWord} (h : w &&& 0x300#10 = pattern) : opField w = opField pattern := by
  rw [← h, opField_and_mask]

section
variable {w : CmdWord}

theorem decodeCmd_of_op_init (h : opField w = 0b00#2) : decodeCmd w = .init := by simp [decodeCmd, h]

theorem decodeCmd_of_op_poll (h : opField w = 0b01#2) : decodeCmd w = .poll := by simp [decodeCmd, h]

theorem decodeCmd_of_op_scan (h : opField w = 0b10#2) : decodeCmd w = .scan := by simp [decodeCmd, h]

theorem decodeCmd_of_op_resolve (h : opField w = 0b11#2) : decodeCmd w = .resolve (argField w) := by
  simp [decodeCmd, h]

end

/-- But for RESOLVE the operation depends on the field `op` alone. -/
theorem decodeCmd_congr_op {w w' : CmdWord} (h : opField w = opField w') (hop : opField w ≠ 0b11#2) :
    decodeCmd w = decodeCmd w' := by
  have hrows (op : BitVec 2) : op = 0b00#2 ∨ op = 0b01#2 ∨ op = 0b10#2 ∨ op = 0b11#2 := by revert op; decide
  rcases hrows (opField w) with e | e | e | e
  · rw [decodeCmd_of_op_init e, decodeCmd_of_op_init (h ▸ e)]
  · rw [decodeCmd_of_op_poll e, decodeCmd_of_op_poll (h ▸ e)]
  · rw [decodeCmd_of_op_scan e, decodeCmd_of_op_scan (h ▸ e)]
  · exact absurd e hop

theorem decode_encode (i : Instr) : decode (encode i) = .ok i := by
  cases i with
  | init => exact congrArg Except.ok (decodeCmd_of_op_init (opField_cmdWord _ _))
  | poll => exact congrArg Except.ok (decodeCmd_of_op_poll (opField_cmdWord _ _))
  | scan => exact congrArg Except.ok (decodeCmd_of_op_scan (opField_cmdWord _ _))
  | resolve raw =>
    refine congrArg Except.ok ?_
    rw [decodeCmd_of_op_resolve (opField_cmdWord _ _), argField_cmdWord]
  | wrIdle => rfl
  | wrScan => rfl

/-! ## Codes as numbers and as bytes (log 11) -/

theorem codeOf_cmdWord (w : CmdWord) : codeOf 16 w.toNat = .ok (.cmd w) := by
  have hfits : isCmdWord w.toNat = true := decide_eq_true w.isLt
  simp [codeOf, hfits]

theorem codeOf_patByte (b : Byte) : codeOf 8 b.toNat = .ok (.pat b) := by
  have hfits : isPatWord b.toNat = true := decide_eq_true b.isLt
  simp [codeOf, hfits]

/-- The two bytes of a command word, the less significant first, have its value. -/
theorem toNat_bytes_of_cmdWord (w : CmdWord) :
    ((w.extractLsb' 8 2).setWidth 8).toNat * 256 + (w.extractLsb' 0 8).toNat = w.toNat := by
  have hw := w.isLt
  simp only [BitVec.toNat_setWidth, BitVec.extractLsb'_toNat, Nat.shiftRight_eq_div_pow]
  omega

/-- Reading the bytes of a code decodes the code. -/
theorem decodeBytes_bytes (c : Code) : decodeBytes c.bytes = decode c := by
  cases c with
  | cmd w => rw [Code.bytes, decodeBytes, toNat_bytes_of_cmdWord, codeOf_cmdWord]; rfl
  | pat b => rfl

/-- Settles O1: the fields of each word read back, and the bytes of a code are read as the code. -/
theorem decodingUndoesEncoding : Obligations.DecodingUndoesEncoding :=
  fun i => ⟨decode_encode i, (decodeBytes_bytes (encode i)).trans (decode_encode i)⟩

/-! ## The opcode map and the port bytes (spec/30_encoding.md R82, R84, R71 to R73) -/

/-- Settles O2: under the mask a word has the `op` of the row it matches. -/
theorem commandWordsDecodeByMatchAndMask : Obligations.CommandWordsDecodeByMatchAndMask := by
  refine fun w => ⟨fun h => ?_, fun h => ?_, fun h => ?_, fun h => ?_⟩ <;> refine congrArg Except.ok ?_
  · exact decodeCmd_of_op_init (opField_of_match h)
  · exact decodeCmd_of_op_poll (opField_of_match h)
  · exact decodeCmd_of_op_scan (opField_of_match h)
  · rw [decodeCmd_of_op_resolve (opField_of_match h), argField_eq_setWidth]

/-- Settles O3: the two words have the same `op`. -/
theorem argumentIsIgnoredWhereUnused : Obligations.ArgumentIsIgnoredWhereUnused := by
  refine ⟨fun op arg hop => congrArg Except.ok ?_, rfl, rfl, rfl⟩
  have hfield (a : Byte) : opField (op ++ a) = op := opField_cmdWord op a
  exact decodeCmd_congr_op ((hfield arg).trans (hfield 0#8).symm) (by rwa [hfield])

theorem decodePat_of_other {b : Byte} (hi : b ≠ idlePattern) (hs : b ≠ scanPattern) :
    decodePat b = .error (.notADrivePattern b) := by
  rw [decodePat, if_neg hi, if_neg hs]

/-- Settles O4. -/
theorem onlyTheTwoPatternsArePortBytes : Obligations.OnlyTheTwoPatternsArePortBytes :=
  ⟨decode_encode .wrIdle, decode_encode .wrScan, fun _ => decodePat_of_other⟩

/-! ## The host's entry (log 11) -/

theorem decodeTableWord_of_cmd {w : CmdWord} {i : Instr} (h : decodeCmd w = i) : decodeTableWord 16 w.toNat = some i := by
  rw [decodeTableWord, codeOf_cmdWord]
  exact congrArg some h

theorem decodeTableWord_of_pat {b : Byte} {i : Instr} (h : decodePat b = .ok i) : decodeTableWord 8 b.toNat = some i := by
  rw [decodeTableWord, codeOf_patByte]
  simp only [decode, h]

/-- Settles O5: each word by the row of its `op`, each byte by its pattern. -/
theorem wordsOfTheSpecDecode : Obligations.WordsOfTheSpecDecode :=
  ⟨decodeTableWord_of_cmd (w := 0x0FF#10) (decodeCmd_of_op_init rfl),
    decodeTableWord_of_cmd (w := 0x1A5#10) (decodeCmd_of_op_poll rfl),
    decodeTableWord_of_cmd (w := 0x2FF#10) (decodeCmd_of_op_scan rfl),
    decodeTableWord_of_cmd (w := 0x342#10) (decodeCmd_of_op_resolve rfl),
    decodeTableWord_of_pat (decode_encode .wrIdle), decodeTableWord_of_pat (decode_encode .wrScan)⟩

/-! ## Keymap entries (spec/30_encoding.md R78) -/

theorem toNat_packEntry (e : KeymapEntry) : (packEntry e).toNat = e.code.toNat * 256 + e.key.toNat := by
  rw [packEntry, BitVec.toNat_append, ← Nat.shiftLeft_add_eq_or_of_lt e.key.isLt, Nat.shiftLeft_eq]

theorem unpackEntry_packEntry (e : KeymapEntry) : unpackEntry (packEntry e) = e := by
  rw [unpackEntry, packEntry, BitVec.extractLsb'_append_eq_left, BitVec.extractLsb'_append_eq_right]

theorem packEntry_unpackEntry (w : KmeWord) : packEntry (unpackEntry w) = w :=
  BitVec.extractLsb'_append_extractLsb'

/-- Settles O6. -/
theorem keymapEntryPacking : Obligations.KeymapEntryPacking :=
  ⟨fun e => ⟨toNat_packEntry e, unpackEntry_packEntry e⟩, packEntry_unpackEntry⟩

end Sys2Proof

namespace Sys2Proof.Machine

/-! ## The trace stays in order (spec/95_test_vectors.md V7, spec/10_state.md R33)

One rule per primitive; the phases, and the operations made of them, are compositions. -/

section
variable {s : State}

/-! The registers other than PORT_OUT and the trace do not count. -/

@[simp] theorem traceInOrder_enter (p : Phase) : TraceInOrder (enter p s) ↔ TraceInOrder s := Iff.rfl
@[simp] theorem traceInOrder_begin (op : Operation) (p : Phase) : TraceInOrder (begin op p s) ↔ TraceInOrder s := Iff.rfl
@[simp] theorem traceInOrder_setR1 (v : Byte) : TraceInOrder (setR1 v s) ↔ TraceInOrder s := Iff.rfl
@[simp] theorem traceInOrder_setR2 (v : Byte) : TraceInOrder (setR2 v s) ↔ TraceInOrder s := Iff.rfl
@[simp] theorem traceInOrder_setRaw (v : Byte) : TraceInOrder (setRaw v s) ↔ TraceInOrder s := Iff.rfl
@[simp] theorem traceInOrder_setIdx (i : Nat) : TraceInOrder (setIdx i s) ↔ TraceInOrder s := Iff.rfl
@[simp] theorem traceInOrder_setResult (k : Byte) (p : Bool) : TraceInOrder (setResult k p s) ↔ TraceInOrder s := Iff.rfl
@[simp] theorem traceInOrder_afterDraw : TraceInOrder (afterDraw s) ↔ TraceInOrder s := Iff.rfl
@[simp] theorem traceInOrder_loadRaw (raw : Byte) : TraceInOrder (loadRaw raw s) ↔ TraceInOrder s := Iff.rfl

/-- One event more, in order, with PORT_OUT following it if it is a write. -/
theorem TraceInOrder.extend_one {t : State} (e : Event) (h : TraceInOrder s) (hc : t.cfg = s.cfg)
    (ht : t.trace = s.trace ++ [e]) (he : eventInOrder s.cfg e) (hp : t.portOut = (lastWritten [e]).getD s.portOut) :
    TraceInOrder t :=
  h.extend [e] hc ht (List.forall_mem_singleton.mpr he) hp

theorem writeIdle_keeps_traceInOrder (h : TraceInOrder s) : TraceInOrder (writeIdle s) :=
  h.extend_one _ rfl rfl ⟨rfl, .inl rfl⟩ rfl

theorem writeScan_keeps_traceInOrder (h : TraceInOrder s) : TraceInOrder (writeScan s) :=
  h.extend_one _ rfl rfl ⟨rfl, .inr rfl⟩ rfl

theorem portRead_keeps_traceInOrder (h : TraceInOrder s) : TraceInOrder (portRead s) :=
  h.extend_one _ rfl rfl ⟨rfl, rfl⟩ rfl

theorem finish_keeps_traceInOrder (w : RspWord) (h : TraceInOrder s) : TraceInOrder (finish w s) :=
  h.extend_one _ rfl rfl trivial rfl

/-- A diagnostic is in order with DEBUG at 1, and with DEBUG at 0 there is none. -/
theorem diag_keeps_traceInOrder {e : DiagEvent} (he : s.cfg.debug = true → eventInOrder s.cfg (.diag e))
    (h : TraceInOrder s) : TraceInOrder (diag e s) := by
  cases hd : s.cfg.debug with
  | true => exact h.extend_one (.diag e) (diag_cfg e s) (by simp [hd]) (he hd) (diag_portOut e s)
  | false => exact h.extend [] (diag_cfg e s) (by simp [hd]) nofun (diag_portOut e s)

theorem noDataNotice_keeps_traceInOrder (k : WhichRead) (answer : Option Byte) (h : TraceInOrder s) :
    TraceInOrder (noDataNotice k answer s) := by
  cases answer with
  | some _ => exact h
  | none => exact diag_keeps_traceInOrder id h

/-! The phases. -/

theorem settle_keeps_traceInOrder (h : TraceInOrder s) : TraceInOrder (settle s) :=
  h.extend_one (.delay s.cfg.tSettle) rfl rfl rfl rfl

theorem drive_keeps_traceInOrder (h : TraceInOrder s) : TraceInOrder (drive s) := by
  rw [drive, traceInOrder_enter]
  exact writeScan_keeps_traceInOrder h

theorem readFirst_keeps_traceInOrder (h : TraceInOrder s) : TraceInOrder (readFirst s) := by
  rw [readFirst, traceInOrder_enter]
  exact noDataNotice_keeps_traceInOrder _ _ (by simpa using portRead_keeps_traceInOrder h)

theorem readSecond_keeps_traceInOrder (h : TraceInOrder s) : TraceInOrder (readSecond s) := by
  rw [readSecond, traceInOrder_enter]
  exact noDataNotice_keeps_traceInOrder _ _ (by simpa using portRead_keeps_traceInOrder h)

theorem combine_keeps_traceInOrder (h : TraceInOrder s) : TraceInOrder (combine s) := by
  rw [combine]
  simpa using h

theorem restore_keeps_traceInOrder (h : TraceInOrder s) : TraceInOrder (restore s) := by
  have hwritten := writeIdle_keeps_traceInOrder h
  rcases restore_cases s with ⟨-, e⟩ | ⟨-, e⟩ <;> rw [e]
  · simpa using hwritten
  · exact finish_keeps_traceInOrder _ hwritten

theorem conclude_keeps_traceInOrder (key : Byte) (h : TraceInOrder s) : TraceInOrder (conclude key s) :=
  finish_keeps_traceInOrder _ (by simpa using h)

/-- The search starts for key activity only, and so the byte reported is not 0xFF. -/
theorem startSearch_keeps_traceInOrder (hr : s.raw ≠ noKey) (h : TraceInOrder s) : TraceInOrder (startSearch s) := by
  rw [startSearch, traceInOrder_enter, traceInOrder_setIdx]
  exact diag_keeps_traceInOrder (fun hd => ⟨hd, hr⟩) h

theorem resolveNoKey_keeps_traceInOrder (h : TraceInOrder s) : TraceInOrder (resolveNoKey s) :=
  conclude_keeps_traceInOrder _ (by simpa using h)

theorem testNoKey_keeps_traceInOrder (h : TraceInOrder s) : TraceInOrder (testNoKey s) := by
  rcases testNoKey_cases s with ⟨-, e⟩ | ⟨hr, e⟩ <;> rw [e]
  · exact resolveNoKey_keeps_traceInOrder h
  · exact startSearch_keeps_traceInOrder hr h

theorem searchOne_keeps_traceInOrder (h : TraceInOrder s) : TraceInOrder (searchOne s) := by
  rcases searchOne_cases s with ⟨_, -, -, e⟩ | ⟨_, -, -, e⟩ | ⟨-, e⟩ <;> rw [e]
  · exact conclude_keeps_traceInOrder _ h
  · simpa using h
  · exact conclude_keeps_traceInOrder _ h

theorem initWrite_keeps_traceInOrder (h : TraceInOrder s) : TraceInOrder (initWrite s) :=
  finish_keeps_traceInOrder _ (writeIdle_keeps_traceInOrder h)

/-! The operations. -/

theorem scanSequence_keeps_traceInOrder (h : TraceInOrder s) : TraceInOrder (scanSequence s) := by
  have hdriven := drive_keeps_traceInOrder (readFirst_keeps_traceInOrder (settle_keeps_traceInOrder h))
  have hcombined := combine_keeps_traceInOrder (readSecond_keeps_traceInOrder hdriven)
  exact restore_keeps_traceInOrder hcombined

theorem resolveSequence_keeps_traceInOrder (h : TraceInOrder s) : TraceInOrder (resolveSequence s) := by
  rw [resolveSequence]
  split_ifs with hr
  · exact resolveNoKey_keeps_traceInOrder h
  · exact conclude_keeps_traceInOrder _ (by simpa using startSearch_keeps_traceInOrder hr h)

theorem exec_keeps_traceInOrder {i : Instr} {t : State} (h : TraceInOrder s) (he : exec i s = .next t) :
    TraceInOrder t := by
  rcases exec_cases he with ⟨-, -, rfl⟩ | ⟨-, -, rfl⟩ | ⟨-, -, rfl⟩ | ⟨raw, -, -, rfl⟩ | ⟨-, rfl⟩ | ⟨-, rfl⟩
  · exact initWrite_keeps_traceInOrder (by simpa using h)
  · exact resolveSequence_keeps_traceInOrder (scanSequence_keeps_traceInOrder (by simpa using h))
  · exact scanSequence_keeps_traceInOrder (by simpa using h)
  · exact resolveSequence_keeps_traceInOrder (by simpa using h)
  · exact writeIdle_keeps_traceInOrder h
  · exact writeScan_keeps_traceInOrder h

theorem advance_keeps_traceInOrder (h : TraceInOrder s) : TraceInOrder (advance s) := by
  cases hp : s.phase with
  | idle => simpa [advance, hp] using h
  | iWrite => rw [advance_iWrite hp]; exact initWrite_keeps_traceInOrder h
  | sSettle => rw [advance_sSettle hp]; exact settle_keeps_traceInOrder h
  | sRead1 => rw [advance_sRead1 hp]; exact readFirst_keeps_traceInOrder h
  | sDrive => rw [advance_sDrive hp]; exact drive_keeps_traceInOrder h
  | sRead2 => rw [advance_sRead2 hp]; exact readSecond_keeps_traceInOrder h
  | sXor => rw [advance_sXor hp]; exact combine_keeps_traceInOrder h
  | sRestore => rw [advance_sRestore hp]; exact restore_keeps_traceInOrder h
  | kTest => rw [advance_kTest hp]; exact testNoKey_keeps_traceInOrder h
  | kSearch => rw [advance_kSearch hp]; exact searchOne_keeps_traceInOrder h

end

/-- Settles O49: the block waits, runs a command at once, or makes one transition, and each keeps the trace in order. -/
theorem stepsKeepTheTraceInOrder : Obligations.StepsKeepTheTraceInOrder := by
  intro s t h hstep
  rcases step_cases hstep with ⟨-, -, rfl⟩ | ⟨w, rest, -, -, he⟩ | ⟨-, rfl⟩
  · exact h
  · exact exec_keeps_traceInOrder (s := { s with script := rest }) h he
  · exact advance_keeps_traceInOrder h

/-! ## The lines of a script (spec/30_encoding.md R86, log 23) -/

/-- A character that neither starts a comment nor ends a word. -/
def isPlain (c : Char) : Bool := c != ';' && !isBlank c

theorem isPlain_iff (c : Char) : isPlain c = true ↔ c ≠ ';' ∧ isBlank c = false := by simp [isPlain]

/-- Plain characters are read into the word at hand. -/
theorem wordsFrom_append {cs : List Char} (h : ∀ c ∈ cs, isPlain c = true) (line word : List Char) :
    wordsFrom (cs ++ line) word = wordsFrom line (cs.reverse ++ word) := by
  induction cs generalizing word with
  | nil => rfl
  | cons c cs ih =>
    obtain ⟨hc, hcs⟩ := List.forall_mem_cons.mp h
    obtain ⟨-, hblank⟩ := (isPlain_iff c).mp hc
    simp [wordsFrom, hblank, ih hcs]

/-- A plain word alone on a line is the line's one word. -/
theorem wordsFrom_word {cs : List Char} (h : ∀ c ∈ cs, isPlain c = true) (hne : cs ≠ []) : wordsFrom cs [] = [cs] := by
  have hread := wordsFrom_append h [] []
  simpa [wordsFrom, hne] using hread

/-- A plain word before a blank is the first word. -/
theorem wordsFrom_word_blank {cs : List Char} (h : ∀ c ∈ cs, isPlain c = true) (hne : cs ≠ []) (line : List Char) :
    wordsFrom (cs ++ ' ' :: line) [] = cs :: wordsFrom line [] := by
  rw [wordsFrom_append h]
  simp [wordsFrom, isBlank, hne]

/-- Without a semicolon there is no comment to strip. -/
theorem stripComment_eq_self {line : List Char} (h : ∀ c ∈ line, c ≠ ';') : stripComment line = line :=
  List.takeWhile_eq_self_iff.mpr fun c hc => bne_iff_ne.mpr (h c hc)

theorem words_of_name_and_operand {name operand : List Char} (hn : ∀ c ∈ name, isPlain c = true) (hne : name ≠ [])
    (ho : ∀ c ∈ operand, isPlain c = true) (hoe : operand ≠ []) :
    wordsFrom (stripComment (name ++ ' ' :: operand)) [] = [name, operand] := by
  have hline : ∀ c ∈ name ++ ' ' :: operand, c ≠ ';' := by
    intro c hc
    rcases List.mem_append.mp hc with hc | hc
    · exact ((isPlain_iff c).mp (hn c hc)).1
    · rcases List.mem_cons.mp hc with rfl | hc
      · decide
      · exact ((isPlain_iff c).mp (ho c hc)).1
  rw [stripComment_eq_self hline, wordsFrom_word_blank hn hne, wordsFrom_word ho hoe]

theorem isPlain_hexDigit : ∀ n < 16, isPlain (hexDigit n) = true := by decide

theorem digitValue_hexDigit : ∀ n < 16, digitValue 16 (hexDigit n) = some n := by decide

/-- The byte of RESOLVE's line, as `lineOf` writes it. -/
def hexText (b : Byte) : List Char := ['0', 'x', hexDigit (b.toNat / 16), hexDigit (b.toNat % 16)]

theorem lineOf_resolve (raw : Byte) :
    lineOf (.resolve raw) = some (['R', 'E', 'S', 'O', 'L', 'V', 'E'] ++ ' ' :: hexText raw) := rfl

theorem hexDigits_lt (b : Byte) : b.toNat / 16 < 16 ∧ b.toNat % 16 < 16 := by
  have hb := b.isLt
  omega

theorem isPlain_of_mem_hexText {b : Byte} {c : Char} (h : c ∈ hexText b) : isPlain c = true := by
  obtain ⟨hhigh, hlow⟩ := hexDigits_lt b
  simp only [hexText, List.mem_cons, List.not_mem_nil, or_false] at h
  obtain rfl | rfl | rfl | rfl := h
  · decide
  · decide
  · exact isPlain_hexDigit _ hhigh
  · exact isPlain_hexDigit _ hlow

theorem byteLiteral_hexText (b : Byte) : byteLiteral (hexText b) = some b := by
  obtain ⟨hhigh, hlow⟩ := hexDigits_lt b
  have hvalue : b.toNat / 16 * 16 + b.toNat % 16 = b.toNat := Nat.div_add_mod' _ _
  have hnumeral : numeral 16 [hexDigit (b.toNat / 16), hexDigit (b.toNat % 16)] 0 = some b.toNat := by
    simp [numeral, digitValue_hexDigit _ hhigh, digitValue_hexDigit _ hlow, hvalue]
  calc byteLiteral (hexText b)
      = asByte (numeral 16 [hexDigit (b.toNat / 16), hexDigit (b.toNat % 16)] 0) := rfl
    _ = some b := by rw [hnumeral]; simp [asByte, b.isLt]

theorem words_of_resolve_line (raw : Byte) :
    wordsFrom (stripComment (['R', 'E', 'S', 'O', 'L', 'V', 'E'] ++ ' ' :: hexText raw)) [] =
      [['R', 'E', 'S', 'O', 'L', 'V', 'E'], hexText raw] :=
  words_of_name_and_operand (by simp [isPlain, isBlank]) (List.cons_ne_nil _ _) (fun _ => isPlain_of_mem_hexText)
    (List.cons_ne_nil _ _)

theorem assembleLine_lineOf {i : Instr} {line : List Char} (h : lineOf i = some line) :
    assembleLine line = some (some i) := by
  cases i with
  | init => cases h; rfl
  | poll => cases h; rfl
  | scan => cases h; rfl
  | resolve raw =>
    rw [lineOf_resolve] at h
    cases h
    rw [assembleLine, words_of_resolve_line]
    exact congrArg (Option.map _) (byteLiteral_hexText raw)
  | wrIdle => cases h
  | wrScan => cases h

/-- An instruction with a line has a command word. -/
theorem encode_of_lineOf {i : Instr} {line : List Char} (h : lineOf i = some line) : ∃ w, encode i = .cmd w := by
  cases i with
  | wrIdle => cases h
  | wrScan => cases h
  | _ => exact ⟨_, rfl⟩

theorem assemble_singleton {i : Instr} {line : List Char} {w : CmdWord} (hl : assembleLine line = some (some i))
    (hw : encode i = .cmd w) : assemble [line] = some [w] := by
  simp [assemble, hl, hw]

/-- Settles O7: the words of a line are a name and a byte in two digits, and the digits have the byte's value. -/
theorem scriptLinesAssemble : Obligations.ScriptLinesAssemble := by
  intro i line h
  have hl := assembleLine_lineOf h
  obtain ⟨w, hw⟩ := encode_of_lineOf h
  exact ⟨hl, w, hw, assemble_singleton hl hw⟩

end Sys2Proof.Machine
end

section
/-! # The statements of spec/40_port_driver.md

What each read of a scan delivers and what a no-data notice adds, then INIT and SCAN by their equations. -/

namespace Sys2Proof.Machine

/-! ## The bytes a scan reads (spec/20_memory.md R48) -/

section
variable {s : State}

theorem firstRead_of_data {v : Byte} (h : upcoming s 0 = some v) : firstRead s = v := by
  rw [firstRead, h, Option.getD_some]

theorem firstRead_of_noData (h : upcoming s 0 = none) : firstRead s = Config.draw8 s.draws := by
  rw [firstRead, h, Option.getD_none]

theorem secondRead_of_data {v : Byte} (h : upcoming s 1 = some v) : secondRead s = v := by
  rw [secondRead, h, Option.getD_some]

theorem secondRead_of_noData (h : upcoming s 1 = none) : secondRead s = Config.draw8 (s.draws + 1) := by
  rw [secondRead, h, Option.getD_none]

end

/-! ## What a read hands to the sink (spec/40_port_driver.md R100) -/

@[simp] theorem noDataRecords_of_data (k : WhichRead) (v : Byte) (debug : Bool) : noDataRecords k (some v) debug = [] := rfl

@[simp] theorem noDataRecords_of_debug_off (k : WhichRead) (answer : Option Byte) : noDataRecords k answer false = [] := by
  cases answer <;> rfl

/-! ## INIT (spec/40_port_driver.md R90) -/

/-- Settles O18: the equation of I_WRITE gives the state, whose PHASE is IDLE as it was. -/
theorem initWritesTheIdlePattern : Obligations.InitWritesTheIdlePattern := by
  refine ⟨rfl, fun arg => congrArg Except.ok (decodeCmd_of_op_init (opField_cmdWord _ arg)), fun s hp => ?_⟩
  rw [exec_init_of_idle hp, initWrite_eq, ← hp]
  rfl

/-! ## SCAN (spec/40_port_driver.md R91 to R103) -/

/-- Settles O20. -/
theorem scanReadsTwiceAndRestores : Obligations.ScanReadsTwiceAndRestores := by
  intro s hp
  refine ⟨_, exec_scan_of_idle hp, ?_⟩
  rw [scanSequence_of_scan]
  exact ⟨fun _ => firstRead_of_data, firstRead_of_noData, fun _ => secondRead_of_data, secondRead_of_noData,
    rfl, rfl, rfl, rfl⟩

/-- Settles O21: the bits of an xor are the xors of the bits, and the response is the last event of `scan_trace`. -/
theorem scanReturnsTheXorOfTheReads : Obligations.ScanReturnsTheXorOfTheReads := by
  intro s hp
  refine ⟨_, _, _, exec_scan_of_idle hp, ?raw, ?bits, scan_trace s, ?value⟩ <;> rw [scanSequence_of_scan]
  case bits => exact fun _ _ => BitVec.getLsbD_xor
  case value => exact rspVal_rspWord _ _

/-- Settles O22. -/
theorem scanEventsInOrder : Obligations.ScanEventsInOrder := by
  intro s hp
  have hscan := exec_scan_of_idle hp
  rw [scanSequence_of_scan] at hscan
  exact ⟨_, _, hscan, rfl, rfl⟩

/-- Two bytes whose xor has every bit set are complements. -/
theorem xor_eq_ff_iff (a b : Byte) : a ^^^ b = 0xFF#8 ↔ b = ~~~a := by
  have hones : a ^^^ ~~~a = 0xFF#8 := by rw [← BitVec.xor_allOnes, ← BitVec.xor_assoc, BitVec.xor_self]; rfl
  rw [← hones, BitVec.xor_right_inj]

/-- Settles O23: RAW is the xor of R1 and R2. -/
theorem scanByteOfEqualAndOfOppositeReads : Obligations.ScanByteOfEqualAndOfOppositeReads := by
  intro s hp
  refine ⟨_, exec_scan_of_idle hp, ?_⟩
  rw [scanSequence_of_scan]
  refine ⟨xor_eq_ff_iff _ _, BitVec.xor_eq_zero_iff, fun hfirst hsecond => ?_⟩
  rw [firstRead_of_data hfirst, secondRead_of_data hsecond]
  rfl

/-- Settles O24: SCAN writes none of the registers kept, and the records of a read are none with data or with DEBUG at 0. -/
theorem scanLeavesTheRestAlone : Obligations.ScanLeavesTheRestAlone := by
  intro s t h
  rw [exec_scan_next h, scanSequence_of_scan]
  refine ⟨rfl, rfl, rfl, rfl, rfl, rfl, rfl, rfl, rfl, fun hdebug => ?_, fun v v' hfirst hsecond => ?_, fun hnone => ?_⟩
  · simp [hdebug]
  · simp [hfirst, hsecond]
  · simp [hnone]

end Sys2Proof.Machine
end

section
/-! # The statements of spec/41_key_resolver.md

Keymaps and the keys a search finds in them, what RESOLVE leaves in the result registers and what it leaves alone, and
then the statements. -/

namespace Sys2Proof.Machine

/-! ## Keymaps (spec/41_key_resolver.md R114, R115) -/

section
variable {keymap : List KeymapEntry}

/-- No earlier entry has the code of a later one. -/
theorem keymapUnique_iff_pairwise : keymapUnique keymap = true ↔ keymap.Pairwise (fun e e' => e.code ≠ e'.code) := by
  induction keymap with
  | nil => simp [keymapUnique]
  | cons e es ih => simp [keymapUnique, ih, ne_comm]

theorem exists_entry_of_keymapCovers {codes : List Byte} {b : Byte} (h : keymapCovers keymap codes = true)
    (hb : b ∈ codes) : ∃ e ∈ keymap, e.code = b := by
  simpa using List.all_eq_true.mp h b hb

/-! ## The key where the search stops (spec/41_key_resolver.md R107 to R109) -/

theorem keyAt_of_getElem? {i : Nat} {e : KeymapEntry} (he : keymap[i]? = some e) : keyAt keymap i = e.key := by
  rw [keyAt, he]

theorem keyAt_length : keyAt keymap keymap.length = unknownKey := by
  rw [keyAt, List.getElem?_length]

/-- For a code the keymap holds, the key found is that of an entry with the code. -/
theorem keyAt_searchStop_of_mem {raw : Byte} (h : ∃ e ∈ keymap, e.code = raw) :
    ∃ e ∈ keymap, e.code = raw ∧ keyAt keymap (searchStop keymap raw) = e.key := by
  obtain ⟨e, he⟩ : ∃ e, keymap.find? (fun e => e.code == raw) = some e := by
    simpa [← Option.isSome_iff_exists] using h
  exact ⟨e, List.mem_of_find?_eq_some he, by simpa using List.find?_some he, by rw [keyAt_searchStop, he]⟩

end

/-! ## The diagnostic of key activity (spec/41_key_resolver.md R111, spec/30_encoding.md R88) -/

section
variable {b : Byte}

theorem rawScanEvents_of_activity (h : b ≠ 0xFF#8) : rawScanEvents b true = [.diag (.rawScan b)] := by
  simp [rawScanEvents, h]

theorem rawScanRecords_of_activity (h : b ≠ 0xFF#8) :
    rawScanRecords b true = [.rawScan b.toNat (binaryDigits b)] := by
  simp [rawScanRecords, h]

@[simp] theorem rawScanRecords_of_debug_off : rawScanRecords b false = [] := rfl

/-- The digits of a byte, most significant first. -/
theorem getElem?_binaryDigits {k : Nat} (h : k < 8) : (binaryDigits b)[k]? = some (b.getLsbD (7 - k)) := by
  interval_cases k <;> rfl

end

/-! ## What RESOLVE leaves (spec/41_key_resolver.md R105, R112) -/

/-- The sequence of RESOLVE makes no read and takes no command, whatever is in RAW. -/
@[simp] theorem resolveSequence_frame (s : State) :
    (resolveSequence s).r1 = s.r1 ∧ (resolveSequence s).r2 = s.r2 ∧ (resolveSequence s).script = s.script ∧
    (resolveSequence s).answers = s.answers ∧ (resolveSequence s).reads = s.reads := by
  by_cases h : s.raw = noKey
  · rw [resolveSequence_of_noKey h]; exact ⟨rfl, rfl, rfl, rfl, rfl⟩
  · rw [resolveSequence_of_activity h]; exact ⟨rfl, rfl, rfl, rfl, rfl⟩

section
variable {s t : State} {b : Byte}

theorem exec_resolve_phase (h : exec (.resolve b) s = .next t) : t.phase = .idle := by
  rw [exec_resolve_next h, resolveSequence_phase]

theorem exec_resolve_pressed (h : exec (.resolve b) s = .next t) : t.pressed = presence b := by
  rw [exec_resolve_next h, resolveSequence_pressed, loadRaw_raw]

theorem exec_resolve_key (h : exec (.resolve b) s = .next t) (hp : t.pressed = true) :
    t.key = keyAt s.cfg.keymap (searchStop s.cfg.keymap b) := by
  rw [exec_resolve_pressed h, presence_eq_true] at hp
  rw [exec_resolve_next h, resolve_activity_eq hp]

/-- PRESSED, and KEY when PRESSED is 1, depend on the configuration and the byte alone. -/
theorem exec_resolve_result_congr {s' t' : State} (hc : s.cfg = s'.cfg) (h : exec (.resolve b) s = .next t)
    (h' : exec (.resolve b) s' = .next t') : t.pressed = t'.pressed ∧ (t.pressed = true → t.key = t'.key) := by
  have hpressed : t.pressed = t'.pressed := (exec_resolve_pressed h).trans (exec_resolve_pressed h').symm
  refine ⟨hpressed, fun hp => ?_⟩
  rw [exec_resolve_key h hp, exec_resolve_key h' (hpressed ▸ hp), hc]

end

/-! ## RESOLVE of 0xFF and of key activity (spec/41_key_resolver.md R106 to R109) -/

/-- Settles O25. -/
theorem resolveOfNoKey : Obligations.ResolveOfNoKey := by
  intro s hp
  have hresolve := exec_resolve_of_idle noKey hp
  rw [resolve_noKey_eq] at hresolve
  exact ⟨_, _, hresolve, rfl, rfl, rfl, rfl, rspPressed_rspWord _ _, rfl, rfl, rfl⟩

/-- Settles O26: IDX is where the search stops. -/
theorem resolveSearchesFromPositionZero : Obligations.ResolveSearchesFromPositionZero := by
  intro s b hp hb
  refine ⟨_, exec_resolve_of_idle b hp, ?_⟩
  rw [resolve_activity_eq hb]
  refine ⟨searchStop_le _ _, fun _ _ => searchStop_passed, fun hlt => ?_⟩
  have hstop := List.getElem?_eq_getElem hlt
  exact ⟨_, hstop, searchStop_match hstop⟩

/-- Settles O27: the search stops at the first position that holds the byte. -/
theorem resolveOfAMappedCode : Obligations.ResolveOfAMappedCode := by
  intro s b i e hp hb he hc hfirst
  refine ⟨_, exec_resolve_of_idle b hp, ?_⟩
  rw [resolve_activity_eq hb, searchStop_eq he hc hfirst]
  exact ⟨rfl, keyAt_of_getElem? he, rfl⟩

/-- Settles O28: the search runs to the end of the keymap. -/
theorem resolveOfAnUnmappedCode : Obligations.ResolveOfAnUnmappedCode := by
  intro s b hp hb habsent
  refine ⟨_, exec_resolve_of_idle b hp, ?_⟩
  rw [resolve_activity_eq hb, searchStop_absent habsent]
  exact ⟨rfl, keyAt_length, rfl⟩

/-- Settles O52: a covered byte is in the keymap, so the search finds an entry with it. -/
theorem coveredCodesResolveToAnEntry : Obligations.CoveredCodesResolveToAnEntry := by
  intro s codes b hp hcovers hmem hb
  obtain ⟨e, he, hc, hkey⟩ := keyAt_searchStop_of_mem (exists_entry_of_keymapCovers hcovers hmem)
  refine ⟨_, e, exec_resolve_of_idle b hp, he, hc, ?_⟩
  rw [resolve_activity_eq hb]
  exact ⟨hkey, rfl⟩

/-! ## The result as a function of the byte (spec/41_key_resolver.md R110, R114) -/

/-- Settles O29: idempotence is the first part for the states before and after, whose configuration is one. -/
theorem resolveDependsOnTheByteAlone : Obligations.ResolveDependsOnTheByteAlone := by
  refine ⟨fun s s' t t' b hc h h' => exec_resolve_result_congr hc h h', ?ties, ?again⟩
  case ties =>
    intro s t b i j e e' h hp he he' hc hc' hfirst
    refine ⟨?_, not_lt.mp fun hlt => hfirst j e' hlt he' hc'⟩
    rw [exec_resolve_key h hp, searchStop_eq he hc hfirst, keyAt_of_getElem? he]
  case again =>
    intro s t b h
    have hu := exec_resolve_of_idle b (exec_resolve_phase h)
    obtain ⟨hpressed, hkey⟩ := exec_resolve_result_congr (exec_cfg h) hu h
    exact ⟨_, hu, hpressed, fun hp => hkey (hpressed.trans hp)⟩

/-- Settles O51: that the codes are pairwise different, read position by position. -/
theorem keymapUniqueMeansNoCodeTwice : Obligations.KeymapUniqueMeansNoCodeTwice := by
  intro keymap
  rw [keymapUnique_iff_pairwise, List.pairwise_iff_getElem]
  refine ⟨fun h i j e e' hij he he' => ?_, fun h i j hi hj hij => ?_⟩
  · obtain ⟨hi, rfl⟩ := List.getElem?_eq_some_iff.mp he
    obtain ⟨hj, rfl⟩ := List.getElem?_eq_some_iff.mp he'
    exact h i j hi hj hij
  · exact h i j _ _ hij (List.getElem?_eq_getElem hi) (List.getElem?_eq_getElem hj)

/-! ## Events and frame (spec/41_key_resolver.md R111, R112) -/

/-- Settles O30: the trace and the sink by what a resolve adds to them, the rest by its frame. -/
theorem resolveTouchesNeitherPortNorReads : Obligations.ResolveTouchesNeitherPortNorReads := by
  intro s b hp
  have hsink := resolveSequence_sink (loadRaw b s)
  obtain ⟨hr1, hr2, hscript, hanswers, hreads⟩ := resolveSequence_frame (loadRaw b s)
  refine ⟨_, _, exec_resolve_of_idle b hp, resolveSequence_trace _, rspPressed_rspWord _ _, fun _ => rspVal_rspWord _ _,
    resolveSequence_portOut _, hr1, hr2, resolveSequence_raw _, resolveSequence_cfg _, hscript, hanswers, hreads,
    resolveSequence_phase _, resolveSequence_inProgress _, hsink, fun hdebug => ?_, fun hnone => ?_⟩
  · simp [hsink, hdebug]
  · simp [hsink, hnone]

/-- Settles O31: key activity with DEBUG at 1 adds its one event and its one record. -/
theorem resolveReportsKeyActivity : Obligations.ResolveReportsKeyActivity := by
  intro s b hp hd hb
  have htrace := resolveSequence_trace (loadRaw b s)
  have hsink := resolveSequence_sink (loadRaw b s)
  simp only [loadRaw_trace, loadRaw_sink, loadRaw_raw, loadRaw_cfg, hd, rawScanEvents_of_activity hb,
    rawScanRecords_of_activity hb, List.append_assoc, List.singleton_append] at htrace hsink
  refine ⟨_, _, exec_resolve_of_idle b hp, htrace, fun hn => ?_, fun got hgot => ?_⟩
  · rw [hsink, hn]; rfl
  · refine ⟨binaryDigits b, ?_, rfl, fun _ => getElem?_binaryDigits⟩
    rw [hsink, hgot]; rfl

end Sys2Proof.Machine
end

section
/-! # The statements of spec/42_poll.md

What a resolve leaves in KEY and IDX and adds to the trace, whatever is in RAW, and then POLL as its scan followed by a
resolve of the byte read. -/

namespace Sys2Proof.Machine

/-! ## KEY and IDX after the sequence of RESOLVE (spec/41_key_resolver.md R106 to R109) -/

section
variable (s : State)

theorem resolveSequence_key : (resolveSequence s).key =
    if s.raw = noKey then Config.draw8 s.draws else keyAt s.cfg.keymap (searchStop s.cfg.keymap s.raw) := by
  split
  next h => rw [resolveSequence_of_noKey h]
  next h => rw [resolveSequence_of_activity h]

theorem resolveSequence_idx : (resolveSequence s).idx =
    if s.raw = noKey then s.idx else searchStop s.cfg.keymap s.raw := by
  split
  next h => rw [resolveSequence_of_noKey h]
  next h => rw [resolveSequence_of_activity h]

end

/-! ## What a resolve adds to the trace (spec/41_key_resolver.md R111), and what it does not depend on -/

theorem rawScanEvents_of_noKey (debug : Bool) : rawScanEvents noKey debug = [] := by
  cases debug <;> rfl

theorem rawScanEvents_eq_ite {raw : Byte} (h : raw ≠ noKey) (debug : Bool) :
    rawScanEvents raw debug = if debug = true then [.diag (.rawScan raw)] else [] := by
  cases debug with
  | false => rfl
  | true => exact rawScanEvents_of_activity h

/-- The events of a resolve (spec/41_key_resolver.md R105, R111). -/
def resolveEvents (s : State) : List Event :=
  rawScanEvents s.raw s.cfg.debug ++ [.resp (rspWord (resolveSequence s).pressed (resolveSequence s).key)]

/-- A resolve does the same whatever command it serves and whatever the trace and the number of responses before it. -/
theorem resolveSequence_of_other_past (s : State) (op : Option Operation) (trace : List Event) (responses : Nat) :
    resolveSequence { s with inProgress := op, trace := trace, responses := responses } =
      { resolveSequence s with trace := trace ++ resolveEvents s, responses := responses + 1 } := by
  by_cases h : s.raw = noKey
  · rw [resolveEvents, resolveSequence_of_noKey h, h, rawScanEvents_of_noKey, List.nil_append,
      resolveSequence_of_noKey]
    rfl
  · rw [resolveEvents, resolveSequence_of_activity h, rawScanEvents_eq_ite h, ← List.append_assoc,
      resolveSequence_of_activity]
    exact h

/-! ## How the host reads a result (spec/42_poll.md R121) -/

theorem hostReads_rspWord (pressed : Bool) (val : Byte) :
    hostReads (rspWord pressed val) = if pressed = true then some val else none := by
  cases pressed <;> simp [hostReads]

theorem hostReads_rspWord_presence_eq_none (raw val : Byte) :
    hostReads (rspWord (presence raw) val) = none ↔ raw = noKey := by
  simp [hostReads_rspWord]

theorem hostReads_rspWord_presence_of_activity {raw : Byte} (h : raw ≠ noKey) (val : Byte) :
    hostReads (rspWord (presence raw) val) = some val := by
  rw [hostReads_rspWord, if_pos ((presence_eq_true raw).mpr h)]

/-! ## POLL from IDLE (spec/42_poll.md R116, R121) -/

/-- Settles O32: R1, R2, RAW and PORT_OUT are what the scan left, and the resolve adds PRESSED and the response. -/
theorem pollScansAndResolves : Obligations.PollScansAndResolves := by
  intro s hp
  have hraw := resolveSequence_raw (scanSequence (begin .poll .sSettle s))
  obtain ⟨hr1, hr2, -, -, -⟩ := resolveSequence_frame (scanSequence (begin .poll .sSettle s))
  refine ⟨_, _, _, exec_poll_of_idle hp, ?r1, ?r2, ?raw, ?port, ?pressed, resolveSequence_phase _,
    resolveSequence_inProgress _, resolveSequence_trace _, rspPressed_rspWord _ _, rspVal_rspWord _ _⟩
  case r1 => rw [hr1, scanSequence_of_poll]
  case r2 => rw [hr2, scanSequence_of_poll]
  case raw => rw [hraw, hr1, hr2, scanSequence_of_poll]
  case port => rw [resolveSequence_portOut, scanSequence_of_poll]; rfl
  case pressed => rw [resolveSequence_pressed, presence_eq_false, hraw]; rfl

/-- Settles O33: the events of the scan, and then those of the resolve of the byte it left. -/
theorem pollEventsInOrder : Obligations.PollEventsInOrder := by
  intro s hp
  have hpoll := exec_poll_of_idle hp
  have htrace := resolveSequence_trace (scanSequence (begin .poll .sSettle s))
  rw [← resolveSequence_raw, scanSequence_of_poll] at htrace
  rw [scanSequence_of_poll] at hpoll
  exact ⟨_, _, hpoll, htrace⟩

/-- Settles O34: the response carries PRESSED by its rule, and with key activity the key where the search stops. -/
theorem pollOutcomesForTheHost : Obligations.PollOutcomesForTheHost := by
  intro s hp
  refine ⟨_, _, _, exec_poll_of_idle hp, resolveSequence_trace _, ?_⟩
  rw [resolveSequence_pressed, resolveSequence_raw]
  refine ⟨hostReads_rspWord_presence_eq_none _ _, fun (hactivity : _ ≠ noKey) => ?_⟩
  rw [hostReads_rspWord_presence_of_activity hactivity, resolveSequence_key, if_neg hactivity, keyAt_searchStop,
    scanSequence_of_poll]
  rfl

/-! ## POLL as SCAN followed by RESOLVE (spec/42_poll.md R117) -/

/-- RESOLVE of the byte that SCAN left starts where the scan of POLL ends, but for the response of SCAN. -/
theorem loadRaw_of_scan (s : State) :
    loadRaw (scanSequence (begin .scan .sSettle s)).raw (scanSequence (begin .scan .sSettle s)) =
      { scanSequence (begin .poll .sSettle s) with
        inProgress := some .resolve
        trace := (scanSequence (begin .scan .sSettle s)).trace
        responses := s.responses + 1 } := by
  rw [scanSequence_of_poll, scanSequence_of_scan]; rfl

theorem poll_trace (s : State) : (resolveSequence (scanSequence (begin .poll .sSettle s))).trace =
    s.trace ++ scanEvents s ++ resolveEvents (scanSequence (begin .poll .sSettle s)) := by
  rw [resolveSequence_trace, poll_scan_trace, List.append_assoc, resolveEvents]

/-- Settles O35: the resolve of POLL and that of RESOLVE differ in their past only, by the response of SCAN. -/
theorem pollIsScanThenResolve : Obligations.PollIsScanThenResolve := by
  intro s hp
  have hscanned : (scanSequence (begin .scan .sSettle s)).phase = .idle := by rw [scanSequence_of_scan]
  have hresolve := exec_resolve_of_idle (scanSequence (begin .scan .sSettle s)).raw hscanned
  rw [loadRaw_of_scan, resolveSequence_of_other_past, scan_trace] at hresolve
  exact ⟨_, _, _, _, _, _, exec_poll_of_idle hp, exec_scan_of_idle hp, hresolve, rfl, rfl, rfl, rfl, rfl, rfl, rfl,
    scan_trace s, rfl, poll_trace s⟩

/-! ## The frame of POLL (spec/42_poll.md R116, spec/10_state.md R22) -/

/-- Settles O36: the scan uses the two answers, and the sink gets the records of the scan and then those of the resolve. -/
theorem pollLeavesTheRestAlone : Obligations.PollLeavesTheRestAlone := by
  intro s t h
  have hsink := resolveSequence_sink (scanSequence (begin .poll .sSettle s))
  obtain ⟨-, -, hscript, hanswers, hreads⟩ := resolveSequence_frame (scanSequence (begin .poll .sSettle s))
  have hidx := resolveSequence_idx (scanSequence (begin .poll .sSettle s))
  rw [← resolveSequence_raw] at hsink hidx
  rw [← exec_poll_next h, scanSequence_of_poll] at hsink hscript hanswers hreads hidx
  simp only [Option.map_map, Function.comp_def] at hsink
  refine ⟨exec_cfg h, hscript, hanswers, hreads, fun hraw => hidx.trans (if_pos hraw), hsink, fun hdebug => ?_,
    fun hnone => ?_⟩
  · simp [hsink, hdebug]
  · simp [hsink, hnone]

end Sys2Proof.Machine
end

section
/-! # The statements of spec/60_exceptions.md

That every step answers a next state, and then that `quiet` commutes with every primitive, so with the phases and
operations made of them, and so with every step. -/

namespace Sys2Proof.Machine

/-! ## The machine goes on (spec/60_exceptions.md R122) -/

/-- Settles O13: the block waits, runs the host command issued, which IDLE never refuses, or makes one transition. -/
theorem everyStepAnswersANextState : Obligations.EveryStepAnswersANextState := by
  intro s
  by_cases hp : s.phase = .idle
  · cases hs : s.script with
    | nil => exact ⟨s, step_of_waiting hp hs⟩
    | cons w rest =>
      rw [step_of_issued hp hs]
      exact exec_of_idle (decodeCmd_format w) hp
  · exact ⟨advance s, step_of_busy hp⟩

/-! ## DEBUG and the sink are observation only (spec/60_exceptions.md R137) -/

section
variable (s : State)

/-! What the primitives and phases take from the state, beside the fields covered in Sys2Proof/Laws. -/

@[simp] theorem quiet_raw : (quiet s).raw = s.raw := rfl
@[simp] theorem nextAnswer_quiet : nextAnswer (quiet s) = nextAnswer s := rfl
@[simp] theorem drawn_quiet : drawn (quiet s) = drawn s := rfl
@[simp] theorem filler_quiet : filler (quiet s) = filler s := rfl
@[simp] theorem scanResponse_quiet : scanResponse (quiet s) = scanResponse s := rfl

/-! The updates of registers, which neither add an event nor read DEBUG. -/

@[simp] theorem quiet_enter (p : Phase) : quiet (enter p s) = enter p (quiet s) := rfl
@[simp] theorem quiet_begin (op : Operation) (p : Phase) : quiet (begin op p s) = begin op p (quiet s) := rfl
@[simp] theorem quiet_setR1 (v : Byte) : quiet (setR1 v s) = setR1 v (quiet s) := rfl
@[simp] theorem quiet_setR2 (v : Byte) : quiet (setR2 v s) = setR2 v (quiet s) := rfl
@[simp] theorem quiet_setIdx (i : Nat) : quiet (setIdx i s) = setIdx i (quiet s) := rfl
@[simp] theorem quiet_setResult (k : Byte) (p : Bool) : quiet (setResult k p s) = setResult k p (quiet s) := rfl
@[simp] theorem quiet_afterDraw : quiet (afterDraw s) = afterDraw (quiet s) := rfl
@[simp] theorem quiet_loadRaw (raw : Byte) : quiet (loadRaw raw s) = loadRaw raw (quiet s) := rfl

/-! The primitives that add an event. -/

/-- An event that is no diagnostic stays in the trace. -/
theorem quiet_emit {e : Event} (h : isDiag e = false) : quiet (emit e s) = emit e (quiet s) := by
  have htrace : (s.trace ++ [e]).filter (fun e => !isDiag e) = (quiet s).trace ++ [e] := by simp [h]
  simp only [quiet, emit, htrace]

@[simp] theorem quiet_delay (t : Nat) : quiet (delay t s) = delay t (quiet s) := quiet_emit s rfl

@[simp] theorem quiet_portWrite (v : Byte) : quiet (portWrite v s) = portWrite v (quiet s) :=
  congrArg (fun u : State => { u with portOut := v }) (quiet_emit s rfl)

@[simp] theorem quiet_portRead : quiet (portRead s) = portRead (quiet s) :=
  congrArg (fun u : State => { u with answers := s.answers.tail, reads := s.reads + 1 }) (quiet_emit s rfl)

@[simp] theorem quiet_finish (w : RspWord) : quiet (finish w s) = finish w (quiet s) :=
  congrArg (fun u : State => { u with responses := s.responses + 1, phase := .idle, inProgress := none })
    (quiet_emit s rfl)

/-- With DEBUG at 1 the event is filtered away again and its record goes with the sink; with DEBUG at 0 there is neither. -/
@[simp] theorem quiet_diag (e : DiagEvent) : quiet (diag e s) = quiet s := by
  cases hd : s.cfg.debug with
  | true =>
    have htrace : (s.trace ++ [Event.diag e]).filter (fun e => !isDiag e) = (quiet s).trace := by simp [isDiag]
    simp only [diag, hd, quiet, emit, htrace]
  | false => simp only [diag, hd]

/-- At DEBUG 0 a diagnostic does nothing. -/
@[simp] theorem diag_quiet (e : DiagEvent) : diag e (quiet s) = quiet s := rfl

@[simp] theorem quiet_noDataNotice (k : WhichRead) (answer : Option Byte) :
    quiet (noDataNotice k answer s) = noDataNotice k answer (quiet s) := by
  cases answer with
  | none => exact quiet_diag s _
  | some _ => rfl

/-! The phases of spec/10_state.md R32: compositions of the primitives. -/

@[simp] theorem quiet_writeIdle : quiet (writeIdle s) = writeIdle (quiet s) := quiet_portWrite s _
@[simp] theorem quiet_writeScan : quiet (writeScan s) = writeScan (quiet s) := quiet_portWrite s _

@[simp] theorem quiet_initWrite : quiet (initWrite s) = initWrite (quiet s) := by simp [initWrite]

@[simp] theorem quiet_settle : quiet (settle s) = settle (quiet s) := by simp [settle]

@[simp] theorem quiet_readFirst : quiet (readFirst s) = readFirst (quiet s) := by simp [readFirst]

@[simp] theorem quiet_drive : quiet (drive s) = drive (quiet s) := by simp [drive]

@[simp] theorem quiet_readSecond : quiet (readSecond s) = readSecond (quiet s) := by simp [readSecond]

@[simp] theorem quiet_combine : quiet (combine s) = combine (quiet s) := rfl

@[simp] theorem quiet_restore : quiet (restore s) = restore (quiet s) := by
  by_cases hpoll : s.inProgress = some .poll
  · rw [restore_of_poll hpoll, restore_of_poll (s := quiet s) hpoll, quiet_enter, quiet_writeIdle]
  · rw [restore_of_not_poll hpoll, restore_of_not_poll (s := quiet s) hpoll, quiet_finish, quiet_writeIdle,
      scanResponse_quiet]

@[simp] theorem quiet_conclude (key : Byte) : quiet (conclude key s) = conclude key (quiet s) := by simp [conclude]

@[simp] theorem quiet_resolveNoKey : quiet (resolveNoKey s) = resolveNoKey (quiet s) := by simp [resolveNoKey]

@[simp] theorem quiet_startSearch : quiet (startSearch s) = startSearch (quiet s) := by simp [startSearch]

@[simp] theorem quiet_testNoKey : quiet (testNoKey s) = testNoKey (quiet s) := by
  rw [testNoKey, apply_ite quiet, quiet_resolveNoKey, quiet_startSearch]; rfl

@[simp] theorem quiet_searchOne : quiet (searchOne s) = searchOne (quiet s) := by
  rcases searchOne_cases s with ⟨e, hk, hc, he⟩ | ⟨e, hk, hc, he⟩ | ⟨hk, he⟩
  · rw [he, searchOne_of_match (s := quiet s) hk hc, quiet_conclude]
  · rw [he, searchOne_of_other (s := quiet s) hk hc]; rfl
  · rw [he, searchOne_of_end (s := quiet s) hk, quiet_conclude]

theorem quiet_advance : quiet (advance s) = advance (quiet s) := by
  simp only [advance, quiet_phase]
  cases s.phase with
  | idle => rfl
  | iWrite => exact quiet_initWrite s
  | sSettle => exact quiet_settle s
  | sRead1 => exact quiet_readFirst s
  | sDrive => exact quiet_drive s
  | sRead2 => exact quiet_readSecond s
  | sXor => exact quiet_combine s
  | sRestore => exact quiet_restore s
  | kTest => exact quiet_testNoKey s
  | kSearch => exact quiet_searchOne s

/-! The operations. -/

@[simp] theorem quiet_scanSequence : quiet (scanSequence s) = scanSequence (quiet s) := by simp [scanSequence]

@[simp] theorem quiet_searchAll : quiet (searchAll s) = searchAll (quiet s) := by simp [searchAll]

@[simp] theorem quiet_resolveSequence : quiet (resolveSequence s) = resolveSequence (quiet s) := by
  rw [resolveSequence, apply_ite quiet, quiet_resolveNoKey, quiet_searchAll, quiet_startSearch]; rfl

end

/-- An instruction does the same with DEBUG at 0 and no sink, but for the diagnostics. -/
theorem exec_quiet {i : Instr} {s t : State} (h : exec i s = .next t) : exec i (quiet s) = .next (quiet t) := by
  rcases exec_cases h with ⟨rfl, hp, rfl⟩ | ⟨rfl, hp, rfl⟩ | ⟨rfl, hp, rfl⟩ | ⟨raw, rfl, hp, rfl⟩ | ⟨rfl, rfl⟩ | ⟨rfl, rfl⟩
  · simp [exec_init_of_idle (s := quiet s) hp]
  · simp [exec_poll_of_idle (s := quiet s) hp]
  · simp [exec_scan_of_idle (s := quiet s) hp]
  · simp [exec_resolve_of_idle (s := quiet s) raw hp]
  · rw [quiet_writeIdle]; rfl
  · rw [quiet_writeScan]; rfl

/-- Settles O43: the block waits, runs a command at once, or makes one transition, and `quiet` commutes with each. -/
theorem debugIsObservationOnly : Obligations.DebugIsObservationOnly := by
  intro s t hstep
  rcases step_cases hstep with ⟨hp, hs, rfl⟩ | ⟨w, rest, hp, hs, he⟩ | ⟨hp, rfl⟩
  · exact step_of_waiting (s := quiet t) hp hs
  · rw [step_of_issued (s := quiet s) hp hs]
    exact exec_quiet he
  · rw [quiet_advance]
    exact step_of_busy (s := quiet s) hp

end Sys2Proof.Machine
end

section
/-! # The statements of spec/70_reset_and_hazards.md

The block that waits, INIT after INIT, and the keypad of 93_implementation_defined.md G4: what its two reads deliver, their
xor as the code of the held key, and the key of a code in a keymap without duplicates. -/

namespace Sys2Proof.Machine

/-! ## Waiting and INIT (spec/70_reset_and_hazards.md R141, R147) -/

/-- Settles O10. -/
theorem idleBlockWaitsForACommand : Obligations.IdleBlockWaitsForACommand :=
  fun _ hp hs => step_of_waiting hp hs

section
variable {s t : State}

theorem exec_init_phase (h : exec .init s = .next t) : t.phase = .idle := by
  rw [exec_init_next h, initWrite_eq]

theorem exec_init_portOut (h : exec .init s = .next t) : t.portOut = idlePattern :=
  let ⟨hinit, _⟩ := portEndsAtTheIdlePattern s t
  hinit h

theorem exec_init_trace (h : exec .init s = .next t) :
    t.trace = s.trace ++ [.write s.cfg.devAddr idlePattern, .resp (filler s)] := by
  rw [exec_init_next h, initWrite_eq]; rfl

end

/-- Settles O19: the first INIT ends in IDLE, where the second is taken, and keeps the device address. -/
theorem secondInitDoesTheSameWrite : Obligations.SecondInitDoesTheSameWrite := by
  intro s t h
  have hagain := exec_init_of_idle (exec_init_phase h)
  have htrace := exec_init_trace hagain
  rw [exec_cfg h] at htrace
  exact ⟨_, _, hagain, exec_init_portOut hagain, exec_init_portOut h, htrace⟩

/-! ## The reads of the keypad (93_implementation_defined.md G4, log 24) -/

/-- Under the idle pattern the rows are driven high and the columns low, so the held key pulls its row low. -/
theorem keypadReads_idlePattern (r c : Fin 4) :
    keypadReads (some (r, c)) idlePattern = idlePattern ^^^ 1#8 <<< rowLine r := by
  revert r c; decide

/-- Under the scan pattern the held key pulls its column low. -/
theorem keypadReads_scanPattern (r c : Fin 4) :
    keypadReads (some (r, c)) scanPattern = scanPattern ^^^ 1#8 <<< columnLine c := by
  revert r c; decide

/-- The patterns are complements. -/
theorem idlePattern_xor_scanPattern : idlePattern ^^^ scanPattern = noKey := by decide

/-- Each read differs from its pattern in one line of the key, so their xor lacks both lines. -/
theorem xor_keypadReads (r c : Fin 4) :
    keypadReads (some (r, c)) idlePattern ^^^ keypadReads (some (r, c)) scanPattern = keypadCode r c := by
  rw [keypadReads_idlePattern, keypadReads_scanPattern]
  calc (idlePattern ^^^ 1#8 <<< rowLine r) ^^^ (scanPattern ^^^ 1#8 <<< columnLine c)
      = (idlePattern ^^^ scanPattern) ^^^ 1#8 <<< rowLine r ^^^ 1#8 <<< columnLine c := by ac_rfl
    _ = keypadCode r c := by rw [idlePattern_xor_scanPattern]; rfl

/-- The code of a key is never the byte of no key. -/
theorem keypadCode_ne_noKey (r c : Fin 4) : keypadCode r c ≠ noKey := by
  revert r c; decide

/-! ## Keymaps without duplicates (spec/41_key_resolver.md R114) -/

/-- In a keymap without duplicates the search for the code of an entry finds the key of that entry. -/
theorem keyAt_searchStop_of_unique {keymap : List KeymapEntry} {e : KeymapEntry} (hu : keymapUnique keymap = true)
    (he : e ∈ keymap) : keyAt keymap (searchStop keymap e.code) = e.key := by
  obtain ⟨e', he', hcode, hkey⟩ := keyAt_searchStop_of_mem ⟨e, he, rfl⟩
  have hcodes : (keymap.map (·.code)).Nodup := List.pairwise_map.mpr (keymapUnique_iff_pairwise.mp hu)
  obtain rfl : e' = e := List.inj_on_of_nodup_map hcodes he' he hcode
  exact hkey

/-! ## POLL of two answers (spec/42_poll.md R116) -/

section
variable {s t : State}

/-- The bytes that two answers with data deliver. -/
theorem reads_of_answers {a b : Byte} {rest : List (Option Byte)} (h : s.answers = some a :: some b :: rest) :
    firstRead s = a ∧ secondRead s = b :=
  ⟨firstRead_of_data (by simp [upcoming, h]), secondRead_of_data (by simp [upcoming, h])⟩

theorem exec_poll_raw (h : exec .poll s = .next t) : t.raw = firstRead s ^^^ secondRead s := by
  rw [exec_poll_next h, resolveSequence_raw, scanSequence_of_poll]

theorem exec_poll_pressed (h : exec .poll s = .next t) : t.pressed = false ↔ t.raw = noKey :=
  let ⟨_, _, hpoll⟩ := pressedIsWrittenByResolvingOnly s t
  hpoll h

theorem exec_poll_key (h : exec .poll s = .next t) (hr : t.raw ≠ noKey) :
    t.key = keyAt s.cfg.keymap (searchStop s.cfg.keymap t.raw) := by
  rw [exec_poll_next h, resolveSequence_raw] at hr ⊢
  rw [resolveSequence_key, if_neg hr, scanSequence_of_poll]

end

/-- Settles O53: the two reads are those of the keypad, so RAW is the code of the held key, or the xor of the two patterns. -/
theorem pollDetectsTheHeldKey : Obligations.PollDetectsTheHeldKey := by
  intro s held rest hp hport hanswers
  obtain ⟨hfirst, hsecond⟩ := reads_of_answers hanswers
  have hpoll := exec_poll_of_idle hp
  have hraw := exec_poll_raw hpoll
  rw [hfirst, hsecond, hport] at hraw
  refine ⟨_, hpoll, fun hnone => ?_, fun r c hheld => ?_⟩
  · subst hnone
    have hnoKey := hraw.trans idlePattern_xor_scanPattern
    exact ⟨hnoKey, (exec_poll_pressed hpoll).mpr hnoKey⟩
  · subst hheld
    have hcode := hraw.trans (xor_keypadReads r c)
    have hactivity := hcode.trans_ne (keypadCode_ne_noKey r c)
    have hpressed := Bool.eq_true_of_not_eq_false (mt (exec_poll_pressed hpoll).mp hactivity)
    refine ⟨hcode, hpressed, fun e he hu hc => ?_⟩
    rw [exec_poll_key hpoll hactivity, hcode, ← hc, keyAt_searchStop_of_unique hu he]

end Sys2Proof.Machine
end
